-- ==== Sys2Proof/Word.lean ====
section
/-! DEFINITION. The word types of the BC-248: the bit strings the manual adds, shifts, compares or sends. -/

namespace Sys2Proof

/-- One byte of a record or a notice (R192). -/
abbrev Byte := BitVec 8

/-- A count of local time, or a time point: microseconds modulo 2^32 (R1, R2). -/
abbrev Time := BitVec 32

/-- A station number 0 … 7, as SA2–SA0 give it and as the arbitration key carries it (R149, R191). -/
abbrev Station := BitVec 3

/-- A request tag 0 … 255 (R14). -/
abbrev Tag := BitVec 8

/-- A set of the 11 alarm flags: the bit of value 2^(n − 1) stands for flag n (R180, R202). -/
abbrev FlagSet := BitVec 11

end Sys2Proof
end

