-- ==== Sys2Proof/Syntax.lean ====
section
/-! DEFINITION. The commands of the part: one constructor of `Instr` for each row of the table of operations and events, and the
operands they carry (records as the radio port takes them, frame bodies as the line carries them, levels of input pins). -/

namespace Sys2Proof

/-- The body of a BEACON as the line carries it (R201). -/
structure BeaconBody where
  timestamp : BitVec 32
  credit : BitVec 11
  epochUnits : BitVec 7
  liveCount : BitVec 5
  fresh : Bool
  hold : Bool
  profileB : Bool
  deriving DecidableEq, Repr

/-- The body of a CLAIM or SHORT CLAIM as the line carries it (R201). -/
structure ClaimBody where
  tag : Tag
  cls : BitVec 3
  dir : BitVec 2
  power : BitVec 2
  low : BitVec 13
  high : BitVec 13
  window : BitVec 17
  anchorOffset : BitVec 23
  period : BitVec 20
  remaining : BitVec 16
  deriving DecidableEq, Repr

/-- What a frame says after its kind and station number (R149, R201). The SHORT flag of a claim is its key kind. -/
inductive FrameBody where
  | beacon (b : BeaconBody)
  | claim (short : Bool) (c : ClaimBody)
  | withdraw (tag : Tag)
  deriving DecidableEq, Repr

/-- One frame of the coexistence line: the station number of its key and its body (R149). -/
structure Frame where
  station : Station
  body : FrameBody
  deriving DecidableEq, Repr

/-- The four values of a table indexed by power class, as 16-bit fields (R202). -/
structure PowerFields where
  p0 : BitVec 16
  p1 : BitVec 16
  p2 : BitVec 16
  p3 : BitVec 16
  deriving DecidableEq, Repr

/-- One profile as SETUP carries it, 30 bytes (R202). -/
structure ProfileRecord where
  share : BitVec 16
  allowance : BitVec 24
  fastEnable : Byte
  fastMax : BitVec 16
  fastMin : BitVec 16
  guardTime : BitVec 16
  vict : PowerFields
  aggr : PowerFields
  same : BitVec 16
  deriving DecidableEq, Repr

/-- The body of a SETUP record (R202). -/
structure SetupRecord where
  lead : BitVec 16
  epochUnits : Byte
  debounce : Byte
  grace : Byte
  alertMask : BitVec 16
  holdMask : BitVec 16
  fastLow : BitVec 16
  fastHigh : BitVec 16
  fastPower : Byte
  initial : Byte
  profileA : ProfileRecord
  profileB : ProfileRecord
  deriving DecidableEq, Repr

/-- The body of a SUBMIT record (R202). `minDuration` is present when the stated length is 24 or more. -/
structure SubmitRecord where
  tag : Tag
  periodic : Bool
  startOffset : BitVec 32
  duration : BitVec 16
  slack : BitVec 16
  period : BitVec 24
  count : BitVec 16
  dir : BitVec 2
  low : BitVec 16
  high : BitVec 16
  power : Byte
  cls : Byte
  minDuration : Option (BitVec 16)
  deriving DecidableEq, Repr

/-- The body of a FAST_SPAN record (R130, R202). -/
structure FastSpanRecord where
  low : BitVec 16
  high : BitVec 16
  power : Byte
  deriving DecidableEq, Repr

/-- What the port makes of a transaction that carries no whole record (R193). -/
inductive PortRecord where
  /-- No whole byte, or kind byte 0. -/
  | noRecord
  /-- A kind byte that is no record kind. -/
  | unknownKind (kind : Byte)
  /-- A known kind whose length byte is missing or too low, or whose body falls short. -/
  | badLength (kind : Byte)
  deriving DecidableEq, Repr

/-- Why a frame is bad: six equal levels in a row within its stuffed part, a CRC that differs, or a dominant level in its end mark
(R148, R159). -/
inductive BadFrameCause where
  | stuffRecessive | stuffDominant | crc | endMark
  deriving DecidableEq, Repr

/-- An event of CXL as LC sees it: a falling edge, from recessive to dominant; a rising edge; the end of a recessive bit (R147, R150, R162). -/
inductive LineEvent where
  | fall | rise | recessiveBit
  deriving DecidableEq, Repr

/-- The commands: one constructor for each row of the table. An operand `whole` is the number of whole bytes of the transaction
whose CSn rise the command is (R192–R194). -/
inductive Instr where
  /-- RESET_ASSERT: RSTn is pulled low with FB at this level (R116). -/
  | resetAssert (fb : Bool)
  /-- RESET_RELEASE: RSTn is released with SA2–SA0 at this number (R13, R191). -/
  | resetRelease (sa : Station)
  /-- MICROSECOND_ADVANCE: the 24th REFCLK edge; `rc` RC cycles have passed since the last advance or window close,
whichever was later (notes/assumptions/8), ACT and RQ are sampled at these levels, and these events of CXL have come about since, oldest
first, but for those before a command of the line (R1, R150, R162; notes/assumptions/15). -/
  | microsecondAdvance (rc : Nat) (act rq : Bool) (line : List LineEvent := [])
  /-- MONITOR_WINDOW_CLOSE: a monitor window closes, `edges` REFCLK edges after the last advance or close (R9, R10). -/
  | monitorWindowClose (edges : Nat)
  /-- EPOCH_BOUNDARY (R7, R8). -/
  | epochBoundary
  /-- COMMIT_POINT: the first of the due commit points in book order (R98, R107). -/
  | commitPoint
  /-- PLACED_START of the entry with this tag (R119). -/
  | placedStart (tag : Tag)
  /-- PLACED_END of the entry with this tag (R27, R119). -/
  | placedEnd (tag : Tag)
  /-- ACT_LEVEL_TAKEN (R133). -/
  | actLevelTaken
  /-- COUNT_DEADLINE (R142). -/
  | countDeadline
  /-- RQ_RISE with PRI1, PRI0 at this number (R123, R127). -/
  | rqRise (pri : BitVec 2)
  /-- RQ_FALL (R128). -/
  | rqFall
  /-- FAST_END (R128). -/
  | fastEnd
  /-- QUIET_DEADLINE of a station's record (R41). -/
  | quietDeadline (station : Station)
  /-- LOST_DEADLINE of a station's record (R42). -/
  | lostDeadline (station : Station)
  /-- LEASE_DEADLINE of a CT entry (R70). -/
  | leaseDeadline (station : Station) (tag : Tag)
  /-- EXPIRY_POINT of a CT entry (R71). -/
  | expiryPoint (station : Station) (tag : Tag)
  /-- JOINING_END (R96). -/
  | joiningEnd
  /-- ACKNOWLEDGE_DEADLINE (R165). -/
  | acknowledgeDeadline
  /-- LINE_IDLE: the last of the events of CXL since the last advance is the end of the 11th consecutive recessive bit (R150, R151;
notes/assumptions/15). -/
  | lineIdle (line : List LineEvent := [])
  /-- START_MARK: a falling edge at line idle (R5, R150, R151). -/
  | startMark
  /-- ARBITRATION_LOST (R152). -/
  | arbitrationLost
  /-- OWN_START_MARK_REPORTED (R152, R154). -/
  | ownStartMarkReported
  /-- FRAME_SENT (R154). -/
  | frameSent
  /-- READBACK_MISMATCH (R157). -/
  | readbackMismatch
  /-- DRIVE_FAULT (R158). -/
  | driveFault
  /-- BEACON_RECEIVED (R50). -/
  | beaconReceived (station : Station) (body : BeaconBody)
  /-- CLAIM_RECEIVED: a CLAIM, or a SHORT CLAIM when `short` is set (R67). -/
  | claimReceived (station : Station) (short : Bool) (body : ClaimBody)
  /-- WITHDRAW_RECEIVED (R69). -/
  | withdrawReceived (station : Station) (tag : Tag)
  /-- OWN_NUMBER_FRAME (R161). -/
  | ownNumberFrame
  /-- BAD_FRAME: a frame is judged bad for this cause, after these events of CXL since the last advance (R159; notes/assumptions/15). -/
  | badFrame (line : List LineEvent := []) (cause : BadFrameCause := .crc)
  /-- LINE_CLEAR_DETECTED (R162, R164). -/
  | lineClearDetected
  /-- LINE_STUCK_DETECTED (R166). -/
  | lineStuckDetected
  /-- DOMINANT_STRETCH_END (R162, R166). -/
  | dominantStretchEnd
  /-- CLEAR_DRIVE_END (R163). -/
  | clearDriveEnd
  /-- CSN_FALL (R186, R192). -/
  | csnFall
  /-- TRANSACTION_END: a CSn rise with no whole record (R193). -/
  | transactionEnd (whole : Nat) (record : PortRecord)
  /-- SETUP, with the ACT and RQ pins at these levels at the CSn rise (R124, R135, R198). -/
  | setup (whole : Nat) (act rq : Bool) (record : SetupRecord)
  /-- SUBMIT (R14–R19). -/
  | submit (whole : Nat) (record : SubmitRecord)
  /-- CANCEL (R29–R33). -/
  | cancel (whole : Nat) (tag : Tag)
  /-- PROFILE_SELECT, with the profile byte as written (R172). -/
  | profileSelect (whole : Nat) (code : Byte)
  /-- FAST_SPAN (R130). -/
  | fastSpan (whole : Nat) (record : FastSpanRecord)
  /-- CLEAR_LINE (R163). -/
  | clearLine (whole : Nat)
  /-- CLEAR_ACK (R165). -/
  | clearAck (whole : Nat)
  /-- ALARM_CLEAR, with the two bytes of the flag set (R182, R202). -/
  | alarmClear (whole : Nat) (flags : BitVec 16)
  /-- METER_READ (R143). -/
  | meterRead (whole : Nat)
  /-- STATUS_READ (R200). -/
  | statusRead (whole : Nat)
  /-- TIME_READ (R4). -/
  | timeRead (whole : Nat)
  /-- FB_CHANGE_DURING_RESET: the FB pin takes this level while RSTn is low (R116). -/
  | fbChangeDuringReset (fb : Bool)
  deriving DecidableEq, Repr

end Sys2Proof
end

