-- ==== Sys2Proof/Decode.lean ====
section
/-! DEFINITION. Reading commands from bits. The table of operations and events gives no row any bits, so `decodeTableWord` answers none;
the records do have a byte layout (R193, R202), which `transactionCommand` reads and `recordBytes` writes. -/

namespace Sys2Proof

/-- The command that a word spells by the table's bits: the table gives none of its rows bits. -/
def decodeTableWord (_nbits _w : Nat) : Option Instr := none

/-! ## Reading bytes -/

/-- The value of `n` bytes from byte `i` on, most significant byte first (section 12.7). Bytes beyond the end are not reached by a record
whose length is good. -/
def valueAt (body : List Byte) (i n : Nat) : Nat := ((body.drop i).take n).foldl (fun v b => v * 256 + b.toNat) 0

/-- The value of bytes as a bit string of this width. -/
def wordAt (body : List Byte) (i n w : Nat) : BitVec w := BitVec.ofNat w (valueAt body i n)

/-- One byte of a body. -/
def byteAt (body : List Byte) (i : Nat) : Byte := wordAt body i 1 8

/-- The body length of a record kind; none for a byte that is no record kind (R202). -/
def recordLength (kind : Byte) : Option Nat :=
  match kind.toNat with
  | 1 => some 75
  | 2 => some 22
  | 3 => some 1
  | 4 => some 1
  | 5 => some 5
  | 6 => some 0
  | 7 => some 0
  | 8 => some 2
  | 9 => some 0
  | 10 => some 0
  | 11 => some 0
  | _ => none

/-- Four separations from byte `i` on (R202). -/
def powerFieldsAt (body : List Byte) (i : Nat) : PowerFields :=
  ⟨wordAt body i 2 16, wordAt body (i + 2) 2 16, wordAt body (i + 4) 2 16, wordAt body (i + 6) 2 16⟩

/-- A profile of 30 bytes from byte `i` on (R202). -/
def profileAt (body : List Byte) (i : Nat) : ProfileRecord :=
  { share := wordAt body i 2 16
    allowance := wordAt body (i + 2) 3 24
    fastEnable := byteAt body (i + 5)
    fastMax := wordAt body (i + 6) 2 16
    fastMin := wordAt body (i + 8) 2 16
    guardTime := wordAt body (i + 10) 2 16
    vict := powerFieldsAt body (i + 12)
    aggr := powerFieldsAt body (i + 20)
    same := wordAt body (i + 28) 2 16 }

/-- The body of a SETUP (R202). -/
def setupOf (body : List Byte) : SetupRecord :=
  { lead := wordAt body 0 2 16
    epochUnits := byteAt body 2
    debounce := byteAt body 3
    grace := byteAt body 4
    alertMask := wordAt body 5 2 16
    holdMask := wordAt body 7 2 16
    fastLow := wordAt body 9 2 16
    fastHigh := wordAt body 11 2 16
    fastPower := byteAt body 13
    initial := byteAt body 14
    profileA := profileAt body 15
    profileB := profileAt body 45 }

/-- The body of a SUBMIT, with its stated length (R202). -/
def submitOf (stated : Nat) (body : List Byte) : SubmitRecord :=
  { tag := byteAt body 0
    periodic := (byteAt body 1).getLsbD 0
    startOffset := wordAt body 2 4 32
    duration := wordAt body 6 2 16
    slack := wordAt body 8 2 16
    period := wordAt body 10 3 24
    count := wordAt body 13 2 16
    dir := (byteAt body 15).setWidth 2
    low := wordAt body 16 2 16
    high := wordAt body 18 2 16
    power := byteAt body 20
    cls := byteAt body 21
    minDuration := if 24 ≤ stated then some (wordAt body 22 2 16) else none }

/-- The body of a FAST_SPAN (R202). -/
def fastSpanOf (body : List Byte) : FastSpanRecord :=
  { low := wordAt body 0 2 16, high := wordAt body 2 2 16, power := byteAt body 4 }

/-- The command of a whole record of a known kind (R198, R202). -/
def recordCommand (whole : Nat) (act rq : Bool) (kind : Byte) (stated : Nat) (body : List Byte) : Instr :=
  match kind.toNat with
  | 1 => .setup whole act rq (setupOf body)
  | 2 => .submit whole (submitOf stated body)
  | 3 => .cancel whole (byteAt body 0)
  | 4 => .profileSelect whole (byteAt body 0)
  | 5 => .fastSpan whole (fastSpanOf body)
  | 6 => .clearLine whole
  | 7 => .clearAck whole
  | 8 => .alarmClear whole (wordAt body 0 2 16)
  | 9 => .meterRead whole
  | 10 => .statusRead whole
  | _ => .timeRead whole

/-- The command that the CSn rise of a transaction is, from the whole bytes shifted in, with ACT and RQ at these levels at the rise
(R193). -/
def transactionCommand (act rq : Bool) (bytes : List Byte) : Instr :=
  match bytes with
  | [] => .transactionEnd 0 .noRecord
  | kind :: rest =>
    if kind = 0 then .transactionEnd bytes.length .noRecord
    else match recordLength kind, rest with
      | none, _ => .transactionEnd bytes.length (.unknownKind kind)
      | some _, [] => .transactionEnd bytes.length (.badLength kind)
      | some least, stated :: body =>
        if stated.toNat < least || body.length < stated.toNat then .transactionEnd bytes.length (.badLength kind)
        else recordCommand bytes.length act rq kind stated.toNat (body.take stated.toNat)

/-! ## The bits of a transaction (R192) -/

/-- Eight bits as a byte, most significant first (R192). -/
def byteOfBits (bits : List Bool) : Byte := bits.foldl (fun v b => v <<< 1 ||| (BitVec.ofBool b).setWidth 8) 0

/-- The whole bytes of the bits sampled on MOSI at the rising SCLK edges of a transaction, in order; the bits of a byte left partial at the
CSn rise are ignored (R192). SCLK is ignored while CSn is high, so that no other bits are sampled. -/
def wholeBytes : List Bool → List Byte
  | b7 :: b6 :: b5 :: b4 :: b3 :: b2 :: b1 :: b0 :: rest => byteOfBits [b7, b6, b5, b4, b3, b2, b1, b0] :: wholeBytes rest
  | _ => []

/-- The bits of a byte as SCLK clocks them, most significant first (R192). -/
def bitsOfByte (b : Byte) : List Bool := (List.range 8).map fun i => b.getMsbD i

/-- The command that the CSn rise of a transaction is, from the bits sampled on MOSI (R192, R193). -/
def transactionOfBits (act rq : Bool) (mosi : List Bool) : Instr := transactionCommand act rq (wholeBytes mosi)

/-! ## Writing records -/

/-- A value as `n` bytes, most significant byte first (section 12.7). -/
def valueBytes : Nat → Nat → List Byte
  | 0, _ => []
  | n + 1, v => BitVec.ofNat 8 (v / 256 ^ n) :: valueBytes n v

/-- Four separations as bytes (R202). -/
def powerFieldsBytes (p : PowerFields) : List Byte :=
  valueBytes 2 p.p0.toNat ++ valueBytes 2 p.p1.toNat ++ valueBytes 2 p.p2.toNat ++ valueBytes 2 p.p3.toNat

/-- A profile as its 30 bytes (R202). -/
def profileBytes (p : ProfileRecord) : List Byte :=
  valueBytes 2 p.share.toNat ++ valueBytes 3 p.allowance.toNat ++ [p.fastEnable] ++ valueBytes 2 p.fastMax.toNat
    ++ valueBytes 2 p.fastMin.toNat ++ valueBytes 2 p.guardTime.toNat ++ powerFieldsBytes p.vict ++ powerFieldsBytes p.aggr
    ++ valueBytes 2 p.same.toNat

/-- The body of a SETUP as bytes (R202). -/
def setupBytes (r : SetupRecord) : List Byte :=
  valueBytes 2 r.lead.toNat ++ [r.epochUnits, r.debounce, r.grace] ++ valueBytes 2 r.alertMask.toNat
    ++ valueBytes 2 r.holdMask.toNat ++ valueBytes 2 r.fastLow.toNat ++ valueBytes 2 r.fastHigh.toNat
    ++ [r.fastPower, r.initial] ++ profileBytes r.profileA ++ profileBytes r.profileB

/-- The body of a SUBMIT as bytes (R202). -/
def submitBytes (r : SubmitRecord) : List Byte :=
  [r.tag, if r.periodic then 1 else 0] ++ valueBytes 4 r.startOffset.toNat ++ valueBytes 2 r.duration.toNat
    ++ valueBytes 2 r.slack.toNat ++ valueBytes 3 r.period.toNat ++ valueBytes 2 r.count.toNat ++ [r.dir.setWidth 8]
    ++ valueBytes 2 r.low.toNat ++ valueBytes 2 r.high.toNat ++ [r.power, r.cls]
    ++ (match r.minDuration with
      | some m => valueBytes 2 m.toNat
      | none => [])

/-- A kind byte, a length byte and a body (R192). -/
def framed (kind : Byte) (body : List Byte) : List Byte := kind :: BitVec.ofNat 8 body.length :: body

/-- The bytes of the record a command carries; none for a command that is no record (R202). -/
def recordBytes : Instr → Option (List Byte)
  | .setup _ _ _ r => some (framed 1 (setupBytes r))
  | .submit _ r => some (framed 2 (submitBytes r))
  | .cancel _ tag => some (framed 3 [tag])
  | .profileSelect _ code => some (framed 4 [code])
  | .fastSpan _ r => some (framed 5 (valueBytes 2 r.low.toNat ++ valueBytes 2 r.high.toNat ++ [r.power]))
  | .clearLine _ => some (framed 6 [])
  | .clearAck _ => some (framed 7 [])
  | .alarmClear _ flags => some (framed 8 (valueBytes 2 flags.toNat))
  | .meterRead _ => some (framed 9 [])
  | .statusRead _ => some (framed 10 [])
  | .timeRead _ => some (framed 11 [])
  | .resetAssert _ | .resetRelease _ | .microsecondAdvance _ _ _ _ | .monitorWindowClose _ | .epochBoundary | .commitPoint
  | .placedStart _ | .placedEnd _ | .actLevelTaken | .countDeadline | .rqRise _ | .rqFall | .fastEnd | .quietDeadline _
  | .lostDeadline _ | .leaseDeadline _ _ | .expiryPoint _ _ | .joiningEnd | .acknowledgeDeadline | .lineIdle _ | .startMark
  | .arbitrationLost | .ownStartMarkReported | .frameSent | .readbackMismatch | .driveFault | .beaconReceived _ _
  | .claimReceived _ _ _ | .withdrawReceived _ _ | .ownNumberFrame | .badFrame _ _ | .lineClearDetected | .lineStuckDetected
  | .dominantStretchEnd | .clearDriveEnd | .csnFall | .transactionEnd _ _ | .fbChangeDuringReset _ => none

end Sys2Proof
end

