-- ==== Sys2Proof/Config.lean ====
section
/-! DEFINITION. The fixed numbers of the part, and the free values: values the manual sends without saying what they are. -/

namespace Sys2Proof.Config

/-- Entries of the request book (R20). -/
def bookSize : Nat := 16

/-- Entries of CT for any one station (R66). -/
def claimsPerStation : Nat := 16

/-- Frames of the transmit queue (R155). -/
def transmitSize : Nat := 17

/-- Notices of the notice queue (R195). -/
def noticeSize : Nat := 32

/-- Free entries a reserve-class notice needs (R195). -/
def noticeReserve : Nat := 3

/-- REFCLK edges of one microsecond of local time (R1). -/
def edgesPerMicrosecond : Nat := 24

/-- REFCLK edges at which a monitor window closes early (R9). -/
def windowEdges : Nat := 6759

/-- RC cycles at which a monitor window closes (R9). -/
def windowCycles : Nat := 2048

/-- The consecutive recessive bits that make line idle (R150). -/
def idleBits : Nat := 11

/-- The most bits of CXL that can end inside one microsecond: two of 0.5 µs, and one more where the bits of a peer run ahead (R147). -/
def bitsAtMost : Nat := 3

/-- A run of five dominant bits, the longest inside a frame, in µs of local time at the most (R147, R148; notes/assumptions/44). -/
def runStretch : Nat := 3

/-- A dominant stretch of 64 bit times, in µs (R162). -/
def clearStretch : Nat := 32

/-- A dominant stretch that is a stuck line, in µs (R166). -/
def stuckStretch : Nat := 2000

/-- The clear drive, 96 bit times in µs (R163). -/
def clearDriveLength : Nat := 48

/-- The acknowledge wait, in µs (R165). -/
def acknowledgeWait : Nat := 2000

/-- FREE VALUE (notes/assumptions/14). The four bytes of a TIME_REPORT's last boundary when none is present (R203), report by report. -/
opaque absentLastBoundary : Nat → BitVec 32

/-- FREE VALUE (notes/assumptions/14). Bit 1 of the sender status byte of a station whose bit 0 says that HOLD is not known (R203). -/
opaque unknownHoldBit : Nat → Station → Bool

/-- FREE VALUE (notes/assumptions/14). Bit 3 of the sender status byte of a station whose bit 2 says that the profile is not known (R203). -/
opaque unknownProfileBit : Nat → Station → Bool

/-- FREE VALUE (notes/assumptions/14). The four upper bits of a station's sender status byte, which R203 gives no meaning. -/
opaque senderStatusUpper : Nat → Station → BitVec 4

/-- FREE VALUE (notes/assumptions/14). The five upper bits of the two bytes in which a notice sends a flag set, to which R202 and R203 give no
value. -/
opaque flagSetUpper : FlagSet → BitVec 5

end Sys2Proof.Config
end

