-- ==== Sys2Proof/Machine/State.lean ====
section
/-! DEFINITION. The state of the part, block by block as the manual names them, the reasons a step can stop, and the state after
reset. The commit schedule (R94) and the grant schedule (R118) have their one home in the book entries; `State.commitSchedule` and
`State.grantSchedule` in Machine/Ops.lean give them as the manual lists them. -/

namespace Sys2Proof.Machine

/-- A machine fault. The part has none: every condition the manual calls a fault is an alarm flag, and the part goes on. -/
inductive Fault where
  deriving DecidableEq, Repr

/-- A refusal by the model. -/
inductive Refusal where
  /-- Raised by `exec` for a command with no meaning yet (none is left). Safe: the model stops. -/
  | notModelled (mnemonic : String)
  deriving DecidableEq, Repr

/-! ## Names -/

/-- The state of the part as a whole (chapter 0, Part states; R95, R203). -/
inductive PartState where
  | unset | joining | running | halted
  deriving DecidableEq, Repr

/-- The clock monitor (R10). -/
inductive MonitorState where
  | clockOk | clockSuspect | clockLost
  deriving DecidableEq, Repr

/-- The direction of an activity (R14). -/
inductive Direction where
  | tx | rx | txrx
  deriving DecidableEq, Repr

/-- Priority classes (R14, R84). -/
inductive PriorityClass where
  | bulk | normal | link | stream | critical
  deriving DecidableEq, Repr

/-- A power class 0 … 3 (R14). -/
abbrev PowerClass := Fin 4

/-- The states of a book entry (R19, section 2.5). -/
inductive EntryState where
  | waiting | committed | active | retiring
  deriving DecidableEq, Repr

/-- Stage reached (R21). -/
inductive Stage where
  | taken | announced | committed | active
  deriving DecidableEq, Repr

/-- Liveness of a peer record (R39). -/
inductive Liveness where
  | unheard | live | quiet | lost
  deriving DecidableEq, Repr

/-- The two profiles (R170). -/
inductive ProfileName where
  | a | b
  deriving DecidableEq, Repr

/-- The joining state of PE (R93). -/
inductive JoiningState where
  | notJoined | joining | running
  deriving DecidableEq, Repr

/-- The overrun state of AM (R132). -/
inductive OverrunState where
  | clear | timing | counted
  deriving DecidableEq, Repr

/-- The ALERT state of AU (R185). -/
inductive AlertState where
  | none | queued | owed
  deriving DecidableEq, Repr

/-- The 11 alarm flags (R180). -/
inductive Alarm where
  | clockSuspect | clockLost | lineNoisy | lineDriveFault | lineStuck | stationClash
  | viewGap | lateOverlap | grantOverrun | noticeLoss | clearUnacked
  deriving DecidableEq, Repr

/-- The kinds an arbitration key can carry (R149). -/
inductive KeyKind where
  | withdraw | shortClaim | claim | beacon
  deriving DecidableEq, Repr

/-! ## Timebase and Clock Monitor (TB) -/

/-- Local time, the epoch timer and the clock monitor (R1, R6, R7, R9, R10, R13). -/
structure Timebase where
  /-- Local time in µs (R1). -/
  localTime : Time
  /-- REFCLK edges of the current microsecond, 0 … 23 (R1). -/
  prescale : Nat
  /-- E in use, in µs (R6). -/
  epochLength : Nat
  /-- Epoch timer: running or stopped (R7). -/
  timerRunning : Bool
  /-- Epoch count (R7). -/
  epochCount : BitVec 32
  /-- Last boundary, or SETUP acceptance (R7). -/
  lastBoundary : Option Time
  /-- Next boundary (R7). -/
  nextBoundary : Option Time
  /-- Monitor state (R10). -/
  monitor : MonitorState
  /-- Window reference count, 0 … 6,759 (R9). -/
  windowCount : Nat
  /-- RC cycles in the window, 0 … 2,048 (R9). -/
  rcCycles : Nat
  /-- Good-window run, 0 … 15 (R10). -/
  goodRun : Nat
  deriving DecidableEq, Repr

/-! ## Request Book (RB) -/

/-- The fields of a SUBMIT after clamping (R14): `period` is present for a PERIODIC request; `count` is 1 for a SINGLE request and
0 for an unending one. -/
structure Request where
  tag : Tag
  startOffset : Nat
  duration : Nat
  slack : Nat
  period : Option Nat
  count : Nat
  dir : Direction
  low : Nat
  high : Nat
  power : PowerClass
  cls : PriorityClass
  minDuration : Option Nat
  deriving DecidableEq, Repr

/-- A placement: the start and length given to an occurrence at its commit (R19, R25). -/
structure Placement where
  start : Time
  length : Nat
  clipped : Bool
  deriving DecidableEq, Repr

/-- The six wrapping counters of an entry (R22). -/
structure Counters where
  granted : BitVec 32
  clipped : BitVec 32
  skipped : BitVec 32
  retracted : BitVec 32
  cut : BitVec 32
  lateOverlaps : BitVec 32
  deriving DecidableEq, Repr

/-- One entry of the request book (R19). -/
structure Entry where
  request : Request
  /-- Effective class (R17, R18). -/
  effClass : PriorityClass
  /-- Admission sequence (R19, R20). -/
  sequence : Nat
  /-- Next occurrence index (R23). -/
  index : BitVec 32
  /-- Own window start of the occurrence held (R23). -/
  windowStart : Time
  /-- Commit point: own window start less L (R23). -/
  commitPoint : Time
  state : EntryState
  announced : Bool
  /-- Epoch count at the report of the last own CLAIM's start mark (R24). -/
  lastAnnounced : Option (BitVec 32)
  /-- Claim held for the FRESH beacon (R19, R36). -/
  held : Bool
  stage : Stage
  placement : Option Placement
  counters : Counters
  deriving DecidableEq, Repr

/-! ## Peer Station Records (PR) -/

/-- The record of one peer station number (R39). -/
structure PeerRecord where
  station : Station
  state : Liveness
  lastHeard : Option Time
  quietDeadline : Option Time
  lostDeadline : Option Time
  /-- Sender epoch length in µs. -/
  senderEpoch : Option Nat
  lastOffset : Option Int
  offsetLatch : Option Time
  /-- Drift estimate D, in drift units (R54). -/
  drift : Int
  driftCount : Nat
  /-- Announced credit, per mille (R51). -/
  credit : Int
  lastFresh : Option Bool
  lastLiveCount : Option Nat
  mismatch : Nat
  senderHold : Option Bool
  senderProfile : Option ProfileName
  /-- Jump counter, saturating (R53). -/
  jumps : BitVec 16
  deriving DecidableEq, Repr

/-- PR: the seven records in ascending station order, fresh owed, and the first FRESH start mark of the present JOINING (R39, R46). -/
structure Peers where
  records : List PeerRecord
  freshOwed : Bool
  firstFresh : Option Time
  deriving DecidableEq, Repr

/-! ## Peer Claim Table (CT) -/

/-- One entry of CT (R66). `period` is absent for a SINGLE claim; `remaining` is absent for an unending one. -/
structure ClaimEntry where
  station : Station
  tag : Tag
  cls : PriorityClass
  dir : Direction
  power : PowerClass
  low : Nat
  high : Nat
  window : Nat
  period : Option Nat
  remaining : Option Nat
  anchorLocal : Time
  anchorOffset : Int
  lastAnnouncement : Time
  lease : Time
  expiry : Option Time
  deriving DecidableEq, Repr

/-! ## Placement Engine (PE) -/

/-- PE: ranking credit and the joining state (R93). Its commit schedule stands in the book entries. -/
structure Placer where
  rankingCredit : Int
  joining : JoiningState
  joiningStart : Option Time
  joiningEnd : Option Time
  deriving DecidableEq, Repr

/-! ## Filters of ACT and RQ -/

/-- A filter on an input pin (R124, R133): running or stopped, the filtered level, and the samples of a new level. -/
structure Filter where
  running : Bool
  level : Bool
  samples : Nat
  deriving DecidableEq, Repr

/-! ## Grant Driver (GD) -/

/-- The fast grant record (R125); IN FORCE also holds the instant the grant began and its fast end. -/
inductive FastState where
  | idle
  | inForce (began fastEnd : Time)
  | spent
  deriving DecidableEq, Repr

/-- A span of frequencies in MHz, low first. -/
structure Span where
  low : Nat
  high : Nat
  deriving DecidableEq, Repr

/-- GD: fallback level, GNT as driven, the RQ filter, the fast grant record, fast span and fast power class (R116, R124, R125, R131).
Its grant schedule stands in the book entries. -/
structure GrantDriver where
  fallback : Bool
  gnt : Bool
  rq : Filter
  fast : FastState
  fastSpan : Option Span
  fastPower : Option PowerClass
  deriving DecidableEq, Repr

/-! ## Air-Time Meter (AM) -/

/-- AM (R132). -/
structure Meter where
  act : Filter
  runningEpoch : BitVec 32
  /-- Current-epoch usage in µs. -/
  usage : Nat
  /-- The eight epoch usages, oldest first. -/
  ring : List Nat
  credit : Int
  shareTarget : Option Nat
  stagedTarget : Option Nat
  overrun : OverrunState
  stretchStart : Option Time
  countDeadline : Option Time
  deriving DecidableEq, Repr

/-! ## Line Controller (LC) -/

/-- The receiver of LC (R150); WAIT IDLE holds the consecutive recessive bits counted, 0 … 10: the 11th ends in IDLE. -/
inductive Receiver where
  | waitIdle (recessive : Nat)
  | idle
  | frame
  deriving DecidableEq, Repr

/-- What a queued frame is: its kind, and the tag of a CLAIM or WITHDRAW (R155). -/
inductive FrameRef where
  | beacon
  | claim (tag : Tag)
  | withdraw (tag : Tag)
  deriving DecidableEq, Repr

/-- One frame of the transmit queue, with its queue time: its place in the order of asks (R155). -/
structure QueuedFrame where
  ref : FrameRef
  asked : Nat
  deriving DecidableEq, Repr

/-- The contending frame, with the key kind fixed at its start mark (R151). -/
structure Contender where
  ref : FrameRef
  key : KeyKind
  deriving DecidableEq, Repr

/-- The own frame in transmission: what was queued, its start-mark latch, and the frame as composed at the report (R152, R154). -/
structure OwnFrame where
  queued : QueuedFrame
  latch : Time
  frame : Frame
  deriving DecidableEq, Repr

/-- The driver of CXL (R147): released; sending the bits of an own frame; driving the clear dominant. -/
inductive Driver where
  | released | sending | dominant
  deriving DecidableEq, Repr

/-- The acknowledge state (R165). -/
inductive AckState where
  | noClear
  | awaiting (deadline : Time)
  | expired
  deriving DecidableEq, Repr

/-- LC (R147, R150, R155, R160, R162, R163, R165). The LINE_STUCK condition is kept in AU (R179). -/
structure LineController where
  driver : Driver
  receiver : Receiver
  /-- Latch of the start mark of the frame on the line (R5). -/
  latch : Option Time
  queue : List QueuedFrame
  /-- The queue time the next ask takes (R155). -/
  nextAsk : Nat
  contending : Option Contender
  inTransmission : Option OwnFrame
  badCount : Nat
  goodRun : Nat
  /-- Start of the dominant stretch being timed: the falling edge that began it (R162). -/
  stretch : Option Time
  clearDetected : Bool
  /-- End of the clear drive in force (R163). -/
  clearDrive : Option Time
  ack : AckState
  deriving DecidableEq, Repr

/-! ## Profile Store (PS) -/

/-- A table of separations by power class (R170). -/
structure PowerTable where
  p0 : Nat
  p1 : Nat
  p2 : Nat
  p3 : Nat
  deriving DecidableEq, Repr

/-- The contents of a profile after clamping (R170). -/
structure Profile where
  share : Nat
  allowance : Nat
  fastEnable : Bool
  fastMax : Nat
  fastMin : Nat
  guardTime : Nat
  vict : PowerTable
  aggr : PowerTable
  same : Nat
  deriving DecidableEq, Repr

/-- PS (R171). -/
structure ProfileStore where
  profileA : Option Profile
  profileB : Option Profile
  inForce : Option ProfileName
  pending : Option ProfileName
  deriving DecidableEq, Repr

/-! ## Alarm Unit (AU) -/

/-- AU (R179). -/
structure AlarmUnit where
  flags : FlagSet
  suspectCondition : Bool
  stuckCondition : Bool
  alertMask : FlagSet
  holdMask : FlagSet
  hold : Bool
  alert : AlertState
  newRaise : Bool
  rxErrors : BitVec 16
  clashes : BitVec 16
  lateOverlaps : BitVec 16
  overruns : BitVec 16
  noticeLosses : BitVec 16
  deriving DecidableEq, Repr

/-! ## Radio Port (RP) -/

/-- Outcomes of a REPLY (R203). -/
inductive ReplyOutcome where
  | accepted | clamped | demoted | refused
  deriving DecidableEq, Repr

/-- Reasons of a REPLY (R203). -/
inductive Reason where
  | none | notSet | alreadySet | badLength | unknownKind | bookFull | tagBusy | unknownTag
  | horizon | badPeriod | badSpan | clearPending | halted
  deriving DecidableEq, Repr

/-- What a commit gave, as OCCURRENCE reports it (R105). -/
inductive CommitOutcome where
  | grant | clip | skipStrongerPeer | skipJoining
  deriving DecidableEq, Repr

/-- The change an OCC_CHANGE reports (R112). -/
inductive Change where
  | cut | retract
  deriving DecidableEq, Repr

/-- The reason of a REQ_END (R35). -/
inductive EndReason where
  | done | cancelled | halted
  deriving DecidableEq, Repr

/-- The origin of a line clear (R164). -/
inductive ClearOrigin where
  | self | line
  deriving DecidableEq, Repr

/-- One peer entry of a STATUS_REPORT (R200, R203). -/
structure PeerStatus where
  station : Station
  state : Liveness
  credit : Int
  hold : Option Bool
  profile : Option ProfileName
  jumps : BitVec 16
  deriving DecidableEq, Repr

/-- The contents of a STATUS_REPORT (R200). -/
structure StatusReport where
  part : PartState
  hold : Bool
  station : Station
  fallback : Bool
  flags : FlagSet
  rxErrors : BitVec 16
  clashes : BitVec 16
  lateOverlaps : BitVec 16
  overruns : BitVec 16
  noticeLosses : BitVec 16
  inForce : Option ProfileName
  pendingProfile : Option ProfileName
  monitor : MonitorState
  ack : AckState
  peers : List PeerStatus
  /-- The MODEL's own: which free value the unstated bits of this report take (notes/assumptions/14). -/
  free : Nat
  deriving DecidableEq, Repr

/-- The notices (R203). An ALERT holds the flags and the hold flag of its last composition, when it has been composed (R186). -/
inductive Notice where
  | reply (kind : Byte) (outcome : ReplyOutcome) (reason : Reason) (tag : Tag) (clamped : List Nat)
  | occurrence (tag : Tag) (index : BitVec 32) (outcome : CommitOutcome) (start : Time) (length : Nat) (held : Bool)
  | occChange (tag : Tag) (index : BitVec 32) (change : Change) (length : Nat)
  | reqEnd (tag : Tag) (reason : EndReason) (stage : Stage) (ended : BitVec 32) (counters : Counters)
  | alert (composed : Option (FlagSet × Bool))
  | profileApplied (profile : ProfileName) (epoch : BitVec 32) (boundary : Time)
  | lineCleared (origin : ClearOrigin) (detected : Time)
  | meterReport (ring : List Nat) (usage : Nat) (credit ranking : Int) (overruns : BitVec 16)
  | statusReport (report : StatusReport)
  | timeReport (localTime : Time) (epoch : BitVec 32) (last : Option Time) (epochLength : Nat) (monitor : MonitorState) (free : Nat)
  deriving DecidableEq, Repr

/-- A transaction: CSn is low, and this notice, if any, was fixed at the CSn fall to be shifted out (R192). -/
structure Transaction where
  out : Option Notice
  deriving DecidableEq, Repr

/-- RP: the notice queue, ATTN and the transaction in progress (R192, R195, R196). -/
structure RadioPort where
  queue : List Notice
  attn : Bool
  transaction : Option Transaction
  deriving DecidableEq, Repr

/-! ## Pins and SETUP parameters -/

/-- Levels of the input pins the model keeps: RSTn, and the others as last presented with a command (section 12.8). -/
structure Pins where
  rstLow : Bool
  fb : Bool
  sa : Station
  act : Bool
  rq : Bool
  pri : BitVec 2
  deriving DecidableEq, Repr

/-- L, d and the overrun grace, in µs, as SETUP gives them (R198, R199). -/
structure Params where
  lead : Nat
  debounce : Nat
  grace : Nat
  deriving DecidableEq, Repr

/-! ## The whole state -/

/-- The state of the part and the queue of commands that wait. -/
structure State where
  pins : Pins
  /-- Own station number, sampled at reset release (R191). -/
  station : Station
  params : Params
  /-- The part is in HALTED (R11). -/
  halted : Bool
  tb : Timebase
  book : List Entry
  pr : Peers
  ct : List ClaimEntry
  pe : Placer
  gd : GrantDriver
  am : Meter
  lc : LineController
  ps : ProfileStore
  au : AlarmUnit
  rp : RadioPort
  /-- The MODEL's own: the number of reports made, which picks the free value of the next one (notes/assumptions/14). -/
  free : Nat
  /-- Commands that wait, first in first out. -/
  pending : List Instr
  deriving DecidableEq, Repr

/-! ## After reset -/

/-- A peer record after reset (R39). -/
def PeerRecord.fresh (station : Station) : PeerRecord where
  station := station
  state := .unheard
  lastHeard := none
  quietDeadline := none
  lostDeadline := none
  senderEpoch := none
  lastOffset := none
  offsetLatch := none
  drift := 0
  driftCount := 0
  credit := 0
  lastFresh := none
  lastLiveCount := none
  mismatch := 0
  senderHold := none
  senderProfile := none
  jumps := 0

/-- A filter after reset: stopped, low, no samples (R124, R132). -/
def Filter.stopped : Filter := { running := false, level := false, samples := 0 }

/-- The eight station numbers in ascending order. -/
def allStations : List Station := [0, 1, 2, 3, 4, 5, 6, 7]

/-- The part right after RSTn is released with straps SA2–SA0 at `sa` and FB at `fb` (R13, R38, R39, R46, R66, R93, R116, R118, R124,
R125, R131, R132, R169, R171, R179, R191, R195). L, d and the grace have no stated value after reset: 0, DESIGN CHOICE
(notes/assumptions/2). The pins ACT, RQ and PRI read low, DESIGN CHOICE (notes/assumptions/1). CSn is high, so that no transaction is in
progress, DESIGN CHOICE (notes/assumptions/40). -/
def State.afterReset (sa : Station) (fb : Bool) : State where
  pins := { rstLow := false, fb := fb, sa := sa, act := false, rq := false, pri := 0 }
  station := sa
  params := { lead := 0, debounce := 0, grace := 0 }
  halted := false
  tb := { localTime := 0, prescale := 0, epochLength := 16384, timerRunning := false, epochCount := 0, lastBoundary := none,
          nextBoundary := none, monitor := .clockOk, windowCount := 0, rcCycles := 0, goodRun := 0 }
  book := []
  pr := { records := (allStations.filter (· ≠ sa)).map PeerRecord.fresh, freshOwed := false, firstFresh := none }
  ct := []
  pe := { rankingCredit := 0, joining := .notJoined, joiningStart := none, joiningEnd := none }
  gd := { fallback := fb, gnt := fb, rq := Filter.stopped, fast := .idle, fastSpan := none, fastPower := none }
  am := { act := Filter.stopped, runningEpoch := 0, usage := 0, ring := [0, 0, 0, 0, 0, 0, 0, 0], credit := 0, shareTarget := none,
          stagedTarget := none, overrun := .clear, stretchStart := none, countDeadline := none }
  lc := { driver := .released, receiver := .waitIdle 0, latch := none, queue := [], nextAsk := 0, contending := none,
          inTransmission := none, badCount := 0, goodRun := 0, stretch := none, clearDetected := false, clearDrive := none,
          ack := .noClear }
  ps := { profileA := none, profileB := none, inForce := none, pending := none }
  au := { flags := 0, suspectCondition := false, stuckCondition := false, alertMask := 0, holdMask := 0, hold := false,
          alert := .none, newRaise := false, rxErrors := 0, clashes := 0, lateOverlaps := 0, overruns := 0, noticeLosses := 0 }
  rp := { queue := [], attn := false, transaction := none }
  free := 0
  pending := []

/-- The part right after reset, with the straps of station 0 and FB low (DESIGN CHOICE, notes/assumptions/1: the straps are the
board's; RESET_RELEASE takes any). -/
def State.reset : State := State.afterReset 0 false

end Sys2Proof.Machine
end

