-- ==== Sys2Proof/Machine/Ops.lean ====
section
/-! DEFINITION. Shared operations: time points and their signed distance, rounding, the blocks of the state, the book and its order,
the schedules read off it, and the part state. -/

namespace Sys2Proof.Machine

/-! ## Arithmetic (chapter 0, Arithmetic) -/

/-- `a / b` rounded to the nearest integer, halves away from zero. -/
def roundDiv (a : Int) (b : Nat) : Int :=
  if 0 ≤ a then (2 * a + b) / (2 * b) else -((2 * (-a) + b) / (2 * b))

/-- The least integer not below `a / b`. -/
def ceilDiv (a b : Nat) : Nat := (a + b - 1) / b

/-- A saturating 16-bit count increased by one (R189). -/
def saturatingSucc (n : BitVec 16) : BitVec 16 := if n = 65535 then n else n + 1

/-- `n` clamped into `lo … hi`. -/
def clampNat (lo hi n : Nat) : Nat := min hi (max lo n)

/-! ## Time (R2) -/

/-- The signed distance of a time point from the instant `now` (R2). -/
def signedDistance (now t : Time) : Int := (t - now).toInt

/-- A time point some microseconds after another (additions are modulo 2^32, R19). -/
def later (t : Time) (n : Nat) : Time := t + BitVec.ofNat 32 n

/-- The present instant. -/
def State.now (s : State) : Time := s.tb.localTime

/-- The signed distance of a time point from the present instant (R2). -/
def State.distance (s : State) (t : Time) : Int := signedDistance s.now t

/-- The time point a signed number of microseconds from the present instant. -/
def State.timeAt (s : State) (d : Int) : Time := s.now + BitVec.ofInt 32 d

/-- A scheduled point has fallen due: its signed distance is 0 or less (R2). -/
def State.due (s : State) (t : Time) : Bool := s.distance t ≤ 0

/-- An optional point is present and has fallen due. -/
def State.dueSome (s : State) (t : Option Time) : Bool :=
  match t with
  | some p => s.due p
  | none => false

/-! ## One block of the state at a time -/

/-- Changes TB alone. -/
def State.onTb (s : State) (f : Timebase → Timebase) : State := { s with tb := f s.tb }
/-- Changes the book alone. -/
def State.onBook (s : State) (f : List Entry → List Entry) : State := { s with book := f s.book }
/-- Changes PR alone. -/
def State.onPr (s : State) (f : Peers → Peers) : State := { s with pr := f s.pr }
/-- Changes CT alone. -/
def State.onCt (s : State) (f : List ClaimEntry → List ClaimEntry) : State := { s with ct := f s.ct }
/-- Changes PE alone. -/
def State.onPe (s : State) (f : Placer → Placer) : State := { s with pe := f s.pe }
/-- Changes GD alone. -/
def State.onGd (s : State) (f : GrantDriver → GrantDriver) : State := { s with gd := f s.gd }
/-- Changes AM alone. -/
def State.onAm (s : State) (f : Meter → Meter) : State := { s with am := f s.am }
/-- Changes LC alone. -/
def State.onLc (s : State) (f : LineController → LineController) : State := { s with lc := f s.lc }
/-- Changes PS alone. -/
def State.onPs (s : State) (f : ProfileStore → ProfileStore) : State := { s with ps := f s.ps }
/-- Changes AU alone. -/
def State.onAu (s : State) (f : AlarmUnit → AlarmUnit) : State := { s with au := f s.au }
/-- Changes RP alone. -/
def State.onRp (s : State) (f : RadioPort → RadioPort) : State := { s with rp := f s.rp }
/-- Changes the pins alone. -/
def State.onPins (s : State) (f : Pins → Pins) : State := { s with pins := f s.pins }

/-! ## Part state -/

/-- The part state, as STATUS_REPORT gives it and every block uses it (R95, R11). -/
def State.part (s : State) : PartState :=
  if s.halted then .halted
  else match s.pe.joining with
    | .notJoined => .unset
    | .joining => .joining
    | .running => .running

/-- The part is in JOINING or RUNNING. -/
def State.joined (s : State) : Bool :=
  match s.part with
  | .joining | .running => true
  | .unset | .halted => false

/-- RSTn is high and the part is not in HALTED: the blocks take their events. -/
def State.working (s : State) : Bool := !s.pins.rstLow && !s.halted

/-- A command whose event comes about only where `enabled` holds; where it does not, the event does not occur and the state stands
(DESIGN CHOICE, notes/assumptions/3). -/
def occurs (enabled : Bool) (effect : State → State) (s : State) : Host.Outcome State Fault Refusal :=
  .next (if enabled then effect s else s)

/-! ## The request book (R19, R20) -/

/-- The tag of an entry. -/
def Entry.tag (e : Entry) : Tag := e.request.tag

/-- The claim window of a request: duration plus slack (R14). -/
def Request.claimWindow (r : Request) : Nat := r.duration + r.slack

/-- The entry that carries a tag. -/
def State.findEntry (s : State) (tag : Tag) : Option Entry := s.book.find? (fun e => e.tag == tag)

/-- Changes the entry that carries a tag. -/
def State.updateEntry (s : State) (tag : Tag) (f : Entry → Entry) : State :=
  s.onBook (List.map (fun e => if e.tag == tag then f e else e))

/-- The entry that carries a tag leaves the book. -/
def State.removeEntry (s : State) (tag : Tag) : State := s.onBook (List.filter (fun e => e.tag != tag))

/-- An entry in WAITING, COMMITTED or ACTIVE. -/
def Entry.standing (e : Entry) : Bool := e.state != .retiring

/-- An entry whose claim is live (R24). -/
def Entry.liveClaim (e : Entry) : Bool := e.announced && e.standing

/-- Whether one entry stands no later than another in book order (R20). -/
def State.bookBefore (s : State) (a b : Entry) : Bool :=
  s.distance a.windowStart < s.distance b.windowStart ||
    (s.distance a.windowStart == s.distance b.windowStart && a.sequence ≤ b.sequence)

/-- One entry put into its place of a list in book order. -/
def State.insertInBookOrder (s : State) (e : Entry) : List Entry → List Entry
  | [] => [e]
  | x :: xs => if s.bookBefore e x then e :: x :: xs else x :: s.insertInBookOrder e xs

/-- The entries in WAITING, COMMITTED and ACTIVE, in book order (R20). -/
def State.bookOrder (s : State) : List Entry := (s.book.filter Entry.standing).foldr s.insertInBookOrder []

/-- The admission sequence of the next entry: after every entry present (R19). -/
def State.nextSequence (s : State) : Nat := s.book.foldl (fun n e => max n (e.sequence + 1)) 0

/-- The place of a stage in the order TAKEN, ANNOUNCED, COMMITTED, ACTIVE (R21). -/
def Stage.rank : Stage → Nat
  | .taken => 0
  | .announced => 1
  | .committed => 2
  | .active => 3

/-- Stage reached is raised to `target` when it is below it (R21). -/
def Stage.raiseTo (st target : Stage) : Stage := if st.rank < target.rank then target else st

/-- The commit schedule of PE: the commit point of each WAITING entry (R94). -/
def State.commitSchedule (s : State) : List (Tag × Time) :=
  (s.book.filter (fun e => e.state == .waiting)).map (fun e => (e.tag, e.commitPoint))

/-- The placed end of a placement (R25). -/
def Placement.endsAt (p : Placement) : Time := later p.start p.length

/-- One record of the grant schedule (R118). -/
structure WindowRecord where
  tag : Tag
  start : Time
  endsAt : Time
  isOpen : Bool
  deriving DecidableEq, Repr

/-- The grant schedule of GD: one window record for each entry in COMMITTED or ACTIVE (R118). -/
def State.grantSchedule (s : State) : List WindowRecord :=
  s.book.filterMap fun e =>
    match e.state, e.placement with
    | .committed, some p => some { tag := e.tag, start := p.start, endsAt := p.endsAt, isOpen := false }
    | .active, some p => some { tag := e.tag, start := p.start, endsAt := p.endsAt, isOpen := true }
    | _, _ => none

/-- The open count: the entries whose window is open (R118, R119). -/
def State.openCount (s : State) : Nat := s.book.countP (fun e => e.state == .active)

/-! ## Peer records and claim entries -/

/-- The record of a station number (R39). -/
def State.findPeer (s : State) (st : Station) : Option PeerRecord := s.pr.records.find? (fun r => r.station == st)

/-- Changes the record of a station number. -/
def State.updatePeer (s : State) (st : Station) (f : PeerRecord → PeerRecord) : State :=
  s.onPr fun p => { p with records := p.records.map (fun r => if r.station == st then f r else r) }

/-- The timeout epoch length of a record (R39). -/
def State.timeoutEpoch (s : State) (r : PeerRecord) : Nat := r.senderEpoch.getD s.tb.epochLength

/-- The CT entry of a station and tag (R66). -/
def State.findClaim (s : State) (st : Station) (tag : Tag) : Option ClaimEntry :=
  s.ct.find? (fun c => c.station == st && c.tag == tag)

/-- The CT entries of one station. -/
def State.claimsOf (s : State) (st : Station) : List ClaimEntry := s.ct.filter (fun c => c.station == st)

/-! ## Profile in force -/

/-- The contents of the profile in force (R171). No block reads one in UNSET; the blank answered there is never used. -/
def State.profile (s : State) : Profile :=
  let blank : Profile :=
    { share := 0, allowance := 0, fastEnable := false, fastMax := 100, fastMin := 10, guardTime := 0,
      vict := ⟨0, 0, 0, 0⟩, aggr := ⟨0, 0, 0, 0⟩, same := 0 }
  match s.ps.inForce with
  | some .a => s.ps.profileA.getD blank
  | some .b => s.ps.profileB.getD blank
  | none => blank

/-- The value of a power table for a power class (R170). -/
def PowerTable.get (t : PowerTable) (pc : PowerClass) : Nat :=
  match pc with
  | 0 => t.p0
  | 1 => t.p1
  | 2 => t.p2
  | 3 => t.p3

/-! ## Filters of ACT and RQ (R124, R133) -/

/-- The filter starts and takes the level the pin has (R124, R135). -/
def Filter.startAt (pin : Bool) : Filter := { running := true, level := pin, samples := 0 }

/-- One sample of the pin at an advance of local time (R133). -/
def Filter.sample (f : Filter) (pin : Bool) : Filter :=
  if !f.running then f else if pin == f.level then { f with samples := 0 } else { f with samples := f.samples + 1 }

/-- A new level has been sampled at d + 1 consecutive advances (R124, R133). -/
def Filter.due (f : Filter) (d : Nat) : Bool := f.running && d + 1 ≤ f.samples

/-- The new level becomes the filtered level (R133). -/
def Filter.take (f : Filter) : Filter := { f with level := !f.level, samples := 0 }

end Sys2Proof.Machine
end

