-- ==== Sys2Proof/Machine/Flags.lean ====
section
/-! DEFINITION. The flags of the part and what follows from them: the notice queue (R195, R196), the alarm flags with their ALERT
(R180–R186), and the hold flag (R187). -/

namespace Sys2Proof.Machine

/-! ## The notice queue -/

/-- Bytes of a notice body (R203). -/
def Notice.length : Notice → Nat
  | .reply _ _ _ _ clamped => 5 + clamped.length
  | .occurrence .. => 14
  | .occChange .. => 8
  | .reqEnd .. => 31
  | .alert .. => 3
  | .profileApplied .. => 9
  | .lineCleared .. => 5
  | .meterReport .. => 42
  | .statusReport .. => 69
  | .timeReport .. => 18

/-- Free entries of the notice queue (R195). -/
def State.freeNotices (s : State) : Nat := Config.noticeSize - s.rp.queue.length

/-- A notice is queued at the end of the queue, and ATTN is asserted (R195, R196). -/
def State.pushNotice (s : State) (n : Notice) : State :=
  s.onRp fun r => { r with queue := r.queue ++ [n], attn := true }

/-! ## Alarm flags -/

/-- The flag number (R180). -/
def Alarm.number : Alarm → Nat
  | .clockSuspect => 1
  | .clockLost => 2
  | .lineNoisy => 3
  | .lineDriveFault => 4
  | .lineStuck => 5
  | .stationClash => 6
  | .viewGap => 7
  | .lateOverlap => 8
  | .grantOverrun => 9
  | .noticeLoss => 10
  | .clearUnacked => 11

/-- The flag set that holds one flag: the bit of value 2^(n − 1) (R202). -/
def Alarm.bit (a : Alarm) : FlagSet := 1#11 <<< (a.number - 1)

/-- A flag stands in a flag set. -/
def Alarm.inSet (a : Alarm) (f : FlagSet) : Bool := f &&& a.bit != 0

/-- The hold flag as its rule gives it: a flag of the hold mask is set, or CLEAR_UNACKED is set (R187). -/
def AlarmUnit.holdRule (u : AlarmUnit) : Bool := u.flags &&& u.holdMask != 0 || Alarm.inSet .clearUnacked u.flags

/-- AU works the hold flag out again (R187). -/
def State.workOutHold (s : State) : State := s.onAu fun u => { u with hold := u.holdRule }

/-- The ALERT that stands in the notice queue has been composed at a CSn fall (R186). -/
def State.alertComposed (s : State) : Bool :=
  s.rp.queue.any fun n => match n with
    | .alert (some _) => true
    | _ => false

/-- A new raise of an unmasked flag acts on the ALERT state (R185). -/
def State.alertNewRaise (s : State) : State :=
  match s.au.alert with
  | .none =>
    if 1 ≤ s.freeNotices then (s.pushNotice (.alert none)).onAu fun u => { u with alert := .queued }
    else s.onAu fun u => { u with alert := .owed }
  | .queued => if s.alertComposed then s.onAu fun u => { u with newRaise := true } else s
  | .owed => s

/-- An owner's report raises a flag; a flag already set stays set and gives no new raise (R180). -/
def State.raiseAlarm (s : State) (a : Alarm) : State :=
  if a.inSet s.au.flags then s
  else
    let set := s.onAu fun u => { u with flags := u.flags ||| a.bit }
    let alerted := if a.inSet s.au.alertMask then set else set.alertNewRaise
    alerted.workOutHold

/-- Flags are cleared, and the hold flag is worked out again (R182, R184, R187). -/
def State.clearAlarms (s : State) (set : FlagSet) : State :=
  (s.onAu fun u => { u with flags := u.flags &&& ~~~set }).workOutHold

/-! ## Event reports with a counter (R180, R189) -/

/-- A notice is dropped: the notice-loss counter increases and NOTICE_LOSS is raised (R195). -/
def State.noticeLost (s : State) : State :=
  (s.onAu fun u => { u with noticeLosses := saturatingSucc u.noticeLosses }).raiseAlarm .noticeLoss

/-- A reserve-class notice is queued when 3 entries are free, and dropped otherwise (R195). -/
def State.offerNotice (s : State) (n : Notice) : State :=
  if Config.noticeReserve ≤ s.freeNotices then s.pushNotice n else s.noticeLost

/-- One overrun stretch is counted (R142). -/
def State.countOverrun (s : State) : State :=
  (s.onAu fun u => { u with overruns := saturatingSucc u.overruns }).raiseAlarm .grantOverrun

/-- One late overlap is reported (R111). -/
def State.countLateOverlap (s : State) : State :=
  (s.onAu fun u => { u with lateOverlaps := saturatingSucc u.lateOverlaps }).raiseAlarm .lateOverlap

/-- One frame with the own station number is reported (R161). -/
def State.countClash (s : State) : State :=
  (s.onAu fun u => { u with clashes := saturatingSucc u.clashes }).raiseAlarm .stationClash

/-! ## The queued ALERT and the head of the queue -/

/-- A notice has left the queue: an owed ALERT, or the new one a mark calls for, is queued in the freed entry (R185). -/
def State.alertAfterRemoval (s : State) (removed : Notice) : State :=
  match removed with
  | .alert _ =>
    if s.au.newRaise then (s.pushNotice (.alert none)).onAu fun u => { u with newRaise := false, alert := .queued }
    else s.onAu fun u => { u with alert := .none }
  | _ =>
    match s.au.alert with
    | .owed => (s.pushNotice (.alert none)).onAu fun u => { u with alert := .queued }
    | _ => s

/-- The head notice leaves the queue; ATTN follows the queue (R194, R196). -/
def State.removeHead (s : State) : State :=
  match s.rp.queue with
  | [] => s
  | n :: rest =>
    (s.onRp fun r => { r with queue := rest, attn := !rest.isEmpty }).alertAfterRemoval n

end Sys2Proof.Machine
end

