-- ==== Sys2Proof/Machine/Queue.lean ====
section
/-! DEFINITION. The transmit queue of LC and the asks that fill it (R45, R59, R62, R63, R65, R155, R156), and the withdrawal of a
contending frame (R153). -/

namespace Sys2Proof.Machine

/-- The tag of a CLAIM or WITHDRAW (R155). -/
def FrameRef.tagOf : FrameRef → Option Tag
  | .beacon => none
  | .claim t => some t
  | .withdraw t => some t

/-- The kind a frame would carry if composed now: a CLAIM is SHORT while its anchor occurrence's commit point is past (R65). -/
def State.keyKind (s : State) : FrameRef → KeyKind
  | .beacon => .beacon
  | .withdraw _ => .withdraw
  | .claim t =>
    match s.findEntry t with
    | some e => if s.distance e.commitPoint < 0 then .shortClaim else .claim
    | none => .claim

/-- The 2-bit kind of an arbitration key (R149). -/
def KeyKind.code : KeyKind → Nat
  | .withdraw => 0
  | .shortClaim => 1
  | .claim => 2
  | .beacon => 3

/-- One queued frame stands ahead of another: by key kind, then by queue time (R155). -/
def State.aheadOf (s : State) (a b : QueuedFrame) : Bool :=
  (s.keyKind a.ref).code < (s.keyKind b.ref).code ||
    ((s.keyKind a.ref).code == (s.keyKind b.ref).code && a.asked ≤ b.asked)

/-- The first of some queued frames in the queue's order. -/
def State.firstOf (s : State) : List QueuedFrame → Option QueuedFrame
  | [] => none
  | f :: rest =>
    match s.firstOf rest with
    | none => some f
    | some g => if s.aheadOf f g then some f else some g

/-- The head frame of the transmit queue (R151, R155). -/
def State.headFrame (s : State) : Option QueuedFrame := s.firstOf s.lc.queue

/-- A frame is in the transmit queue. -/
def State.queueHolds (s : State) (ref : FrameRef) : Bool := s.lc.queue.any (fun f => f.ref == ref)

/-- Some frame for a tag is in the transmit queue. -/
def State.queueHoldsTag (s : State) (tag : Tag) : Bool := s.lc.queue.any (fun f => f.ref.tagOf == some tag)

/-- A frame leaves the transmit queue. -/
def State.dequeue (s : State) (ref : FrameRef) : State :=
  s.onLc fun l => { l with queue := l.queue.filter (fun f => f.ref != ref) }

/-- A queued WITHDRAW whose tag has left the book (R155). -/
def State.orphan (s : State) (f : QueuedFrame) : Bool :=
  match f.ref with
  | .withdraw t => (s.findEntry t).isNone
  | _ => false

/-- The frame of earliest queue time among some frames. -/
def earliestAsked : List QueuedFrame → Option QueuedFrame
  | [] => none
  | f :: rest =>
    match earliestAsked rest with
    | none => some f
    | some g => if f.asked ≤ g.asked then some f else some g

/-- An ask that would add a frame to a full queue first discards the earliest WITHDRAW whose tag has left the book (R155). -/
def State.makeRoom (s : State) : State :=
  if s.lc.queue.length < Config.transmitSize then s
  else match earliestAsked (s.lc.queue.filter s.orphan) with
    | some f => s.dequeue f.ref
    | none => s

/-- A frame is queued with the queue time of the ask (R155). -/
def State.enqueue (s : State) (ref : FrameRef) : State :=
  s.makeRoom.onLc fun l => { l with queue := l.queue ++ [{ ref := ref, asked := l.nextAsk }], nextAsk := l.nextAsk + 1 }

/-- RB asks LC for a CLAIM for a tag (R59). -/
def State.askClaim (s : State) (tag : Tag) : State :=
  match s.findEntry tag with
  | none => s
  | some e =>
    if !e.standing || e.held then s
    else if s.queueHolds (.claim tag) then s
    else if s.queueHolds (.withdraw tag) then (s.dequeue (.withdraw tag)).enqueue (.claim tag)
    else s.enqueue (.claim tag)

/-- RB asks LC for a WITHDRAW for a tag; it replaces a frame queued for the tag (R30, R62). -/
def State.askWithdraw (s : State) (tag : Tag) : State :=
  ((s.dequeue (.claim tag)).dequeue (.withdraw tag)).enqueue (.withdraw tag)

/-- PR asks LC for an own BEACON; it replaces an unsent one (R45). -/
def State.askBeacon (s : State) : State := (s.dequeue .beacon).enqueue .beacon

/-- RB asks for CLAIMs one after another, in the order of the list (R59). -/
def State.askClaims (s : State) (tags : List Tag) : State := tags.foldl State.askClaim s

/-- A catch-up: every live claim is asked for, in book order (R43). -/
def State.catchUp (s : State) : State := s.askClaims ((s.bookOrder.filter Entry.liveClaim).map Entry.tag)

/-- The held claims are released at the first FRESH start mark: each is asked for in book order, and none stays held (R49, R61). -/
def State.releaseHeldClaims (s : State) : State :=
  let tags := (s.bookOrder.filter (fun e => e.held)).map Entry.tag
  (s.onBook (List.map (fun e => if e.standing then { e with held := false } else e))).askClaims tags

/-- A frame that goes back with its original queue time (R156). A return that finds the queue full makes room as an ask does, so that the
queue keeps its law (R155; DESIGN CHOICE, notes/assumptions/30). -/
def State.putBack (s : State) (f : QueuedFrame) : State := s.makeRoom.onLc fun l => { l with queue := l.queue ++ [f] }

/-- An own frame abandoned after its report returns to the queue, or is discarded (R45, R63, R156). A returned BEACON keeps its queue time
as a CLAIM and a WITHDRAW do, DESIGN CHOICE (notes/assumptions/37). -/
def State.returnFrame (s : State) (f : QueuedFrame) : State :=
  match f.ref with
  | .beacon => if s.queueHolds .beacon then s else s.putBack f
  | .claim t =>
    match s.findEntry t with
    | some e => if e.standing && !e.held && !s.queueHoldsTag t then s.putBack f else s
    | none => s
  | .withdraw t => if !s.queueHoldsTag t && s.lc.queue.length < Config.transmitSize then s.putBack f else s

/-- LC stops contending and releases the line (R152, R153). -/
def State.stopContending (s : State) : State := s.onLc fun l => { l with contending := none, driver := .released }

/-- A contending frame that has left the queue, or whose kind is no longer the key's, is withdrawn from contention (R153). The table of R153
does not name a contending WITHDRAW of a tag that has left the book, which a CLAIM replaces (R59) or an ask discards for room (R155): it is
withdrawn as well, DESIGN CHOICE (notes/assumptions/43). -/
def State.checkContender (s : State) : State :=
  match s.lc.contending with
  | none => s
  | some c => if s.queueHolds c.ref && s.keyKind c.ref == c.key then s else s.stopContending

end Sys2Proof.Machine
end

