-- ==== Sys2Proof/Machine/Epoch.lean ====
section
/-! DEFINITION. What the blocks do at an own epoch boundary: the close of AM (R137, R138), the claim repeats of RB (R60, R61) and the
switch of PS (R173, R175). -/

namespace Sys2Proof.Machine

/-- The used share of the ring, in per mille (R137). -/
def usedShare (ring : List Nat) (epochLength : Nat) : Nat := ring.sum * 1000 / (8 * epochLength)

/-- AM closes the running epoch (R137). -/
def Meter.close (m : Meter) (epochLength : Nat) (epoch : BitVec 32) : Meter :=
  let ring := m.ring.drop 1 ++ [m.usage]
  { m with
    ring := ring
    credit := (m.shareTarget.getD 0 : Nat) - (usedShare ring epochLength : Nat)
    shareTarget := m.stagedTarget <|> m.shareTarget
    stagedTarget := none
    usage := 0
    runningEpoch := epoch }

/-- AM takes the share target of a profile that comes into force: at once when it has closed the epoch, staged otherwise (R138). -/
def Meter.takeTarget (m : Meter) (target : Nat) (epoch : BitVec 32) : Meter :=
  if m.runningEpoch = epoch then { m with shareTarget := some target } else { m with stagedTarget := some target }

/-- The epoch timer at its boundary (R7). -/
def Timebase.boundary (t : Timebase) : Timebase :=
  { t with
    epochCount := t.epochCount + 1
    lastBoundary := t.nextBoundary
    nextBoundary := t.nextBoundary.map (fun b => later b t.epochLength) }

/-- An entry whose claim is repeated at a boundary of this epoch count: 8 or more epochs after its last announcement (R60), or any live
claim in JOINING (R61). -/
def State.repeats (s : State) (e : Entry) : Bool :=
  e.liveClaim && !e.held &&
    (s.pe.joining == .joining ||
      match e.lastAnnounced with
      | some n => 8 ≤ (s.tb.epochCount - n).toNat
      | none => false)

/-- RB asks for the claims repeated at a boundary, in book order (R60, R61). -/
def State.repeatClaims (s : State) : State := s.askClaims ((s.bookOrder.filter s.repeats).map Entry.tag)

/-- PS makes the pending profile the profile in force, hands its share target to AM, and queues PROFILE_APPLIED (R173, R175). -/
def State.switchProfile (s : State) : State :=
  match s.ps.pending with
  | none => s
  | some p =>
    let switched := s.onPs fun ps => { ps with inForce := some p, pending := none }
    let handed := switched.onAm fun m => m.takeTarget switched.profile.share s.tb.epochCount
    handed.offerNotice (.profileApplied p s.tb.epochCount s.now)

/-- The next epoch boundary has fallen due (R7). -/
def State.boundaryDue (s : State) : Bool := s.tb.timerRunning && s.dueSome s.tb.nextBoundary

/-- An own epoch boundary, handed to every block (R8). AM, PR, RB and PS take it in the order of the table of R8, DESIGN CHOICE: R138
allows the close of AM and the switch of PS in either order, so that a target is never staged here (notes/assumptions/35). -/
def State.takeBoundary (s : State) : State :=
  let counted := s.onTb Timebase.boundary
  let closed := counted.onAm fun m => m.close counted.tb.epochLength counted.tb.epochCount
  closed.askBeacon.repeatClaims.switchProfile

end Sys2Proof.Machine
end

