-- ==== Sys2Proof/Machine/Projection.lean ====
section
/-! DEFINITION. The projection of peer occurrences (R73–R75) and the natural expiry of a claim entry (R71). Intervals are signed
distances in µs: from the anchor start mark here, from the present instant in Conflict.lean. -/

namespace Sys2Proof.Machine

/-- A half-open interval of signed distances. -/
abbrev Interval := Int × Int

/-- P(e) less anchor local (R74). -/
def projected (drift e : Int) : Int := e - roundDiv (e * drift) 16000000

/-- The margin m(e) at rate U (R75). -/
def margin (rate : Nat) (e : Int) : Int := 4 + ceilDiv (e.natAbs * rate) 1000000

/-- The rate U at the present instant for a sender's record (R75). -/
def State.marginRate (s : State) (r : PeerRecord) : Nat :=
  if s.tb.monitor = .clockSuspect then 200
  else if r.driftCount < 3 || r.state = .quiet then 50
  else 10

/-- The peer time at which occurrence j starts (R73). -/
def ClaimEntry.startOf (c : ClaimEntry) (j : Nat) : Int := c.anchorOffset + j * (c.period.getD 0 : Nat)

/-- The peer time at which occurrence j ends (R73). -/
def ClaimEntry.endOf (c : ClaimEntry) (j : Nat) : Int := c.startOf j + c.window

/-- The occupied interval of occurrence j, from anchor local (R75). -/
def ClaimEntry.occupied (c : ClaimEntry) (drift : Int) (rate : Nat) (j : Nat) : Interval :=
  (projected drift (c.startOf j) - margin rate (c.startOf j), projected drift (c.endOf j) + margin rate (c.endOf j))

/-- The expiry point: the end of the last occurrence's occupied interval, when it does not lie beyond the lease deadline (R71). -/
def State.expiryOf (s : State) (c : ClaimEntry) : Option Time :=
  match c.remaining, s.findPeer c.station with
  | some n, some r =>
    let q := (c.occupied r.drift (s.marginRate r) (n - 1)).2
    if q ≤ ((c.lease - c.anchorLocal).toNat : Int) then some (c.anchorLocal + BitVec.ofInt 32 q) else none
  | _, _ => none

/-- CT computes afresh the expiry points of the entries chosen; one that comes out at or before the present instant removes its
entry at once (R71). -/
def State.recomputeExpiry (s : State) (chosen : ClaimEntry → Bool) : State :=
  s.onCt fun ct =>
    (ct.map fun c => if chosen c then { c with expiry := s.expiryOf c } else c).filter
      fun c => !(chosen c && s.dueSome c.expiry)

end Sys2Proof.Machine
end

