-- ==== Sys2Proof/Machine/Conflict.lean ====
section
/-! DEFINITION. Conflict and rank: the spectral test (R78, R79), the temporal test (R81, R82), rank (R84, R85) and blocking (R87). -/

namespace Sys2Proof.Machine

/-- The own side of a test, but for its interval (R76). -/
structure Activity where
  cls : PriorityClass
  dir : Direction
  power : PowerClass
  low : Nat
  high : Nat
  deriving DecidableEq, Repr

/-- The own side of a test for a book entry (R76). -/
def Entry.activity (e : Entry) : Activity :=
  { cls := e.effClass, dir := e.request.dir, power := e.request.power, low := e.request.low, high := e.request.high }

/-! ## Spectral conflict -/

/-- The separation of two spans, in MHz (R78). -/
def separation (xLow xHigh yLow yHigh : Nat) : Nat := max (yLow - xHigh) (xLow - yHigh)

/-- The direction transmits (R79). -/
def Direction.transmits : Direction → Bool
  | .tx | .txrx => true
  | .rx => false

/-- The direction receives (R79). -/
def Direction.receives : Direction → Bool
  | .rx | .txrx => true
  | .tx => false

/-- Spectral conflict of an own activity and a peer claim under a profile (R79). -/
def spectralConflict (p : Profile) (x : Activity) (y : ClaimEntry) : Bool :=
  let sep := separation x.low x.high y.low y.high
  (x.dir.receives && y.dir.transmits && sep < p.vict.get y.power) ||
  (x.dir.transmits && y.dir.receives && sep < p.aggr.get x.power) ||
  (x.dir.transmits && y.dir.transmits && sep < p.same)

/-! ## Rank -/

/-- Classes as numbers (R84). -/
def PriorityClass.number : PriorityClass → Nat
  | .bulk => 0
  | .normal => 1
  | .link => 2
  | .stream => 3
  | .critical => 4

/-- What rank compares: class, credit, station number (R84). -/
structure Rank where
  cls : PriorityClass
  credit : Int
  station : Station
  deriving DecidableEq, Repr

/-- The first side is stronger than the second: class, then credit, then the lower station number (R84). -/
def Rank.stronger (a b : Rank) : Bool :=
  if a.cls.number ≠ b.cls.number then b.cls.number < a.cls.number
  else if a.credit ≠ b.credit then b.credit < a.credit
  else a.station.toNat < b.station.toNat

/-- The own side of a rank (R85). -/
def State.ownRank (s : State) (x : Activity) : Rank := { cls := x.cls, credit := s.pe.rankingCredit, station := s.station }

/-- The peer side of a rank (R85). -/
def peerRank (r : PeerRecord) (y : ClaimEntry) : Rank := { cls := y.cls, credit := r.credit, station := y.station }

/-! ## Temporal conflict -/

/-- An own interval meets a guarded interval; one of length 0 meets none (R81). -/
def meets (own guarded : Interval) : Bool := own.1 < own.2 && own.1 < guarded.2 && guarded.1 < own.2

/-- The occupied interval of occurrence j as signed distances from the present instant. Distances are taken from the anchor's
signed distance without wrapping (DEDUCED from R2, R3 and R73; notes/assumptions/18). -/
def State.occupiedFromNow (s : State) (r : PeerRecord) (c : ClaimEntry) (j : Nat) : Interval :=
  let occ := c.occupied r.drift (s.marginRate r) j
  (s.distance c.anchorLocal + occ.1, s.distance c.anchorLocal + occ.2)

/-- An entry with a finite remaining count has no occurrence j (R73). -/
def pastLast (remaining : Option Nat) (j : Nat) : Bool :=
  match remaining with
  | some n => n ≤ j
  | none => false

/-- The guarded intervals of the run of occurrences a test examines: from occurrence j on, past ones are passed over, and the run
stops at the first whose guarded start is not earlier than the own end, or after occurrence n − 1 (R82). -/
def guardedRun (occ : Nat → Interval) (g ownEnd : Int) (remaining : Option Nat) : Nat → Nat → List Interval
  | 0, _ => []
  | fuel + 1, j =>
    if pastLast remaining j then []
    else if (occ j).2 ≤ 0 then guardedRun occ g ownEnd remaining fuel (j + 1)
    else if ownEnd ≤ (occ j).1 - g then []
    else ((occ j).1 - g, (occ j).2 + g) :: guardedRun occ g ownEnd remaining fuel (j + 1)

/-- A number of occurrences that a run cannot exceed: a guarded start lies at least half of e after the anchor (|D| ≤ 3,200, U ≤ 200),
less 6 µs and the guard (notes/assumptions/19). -/
def State.runBound (s : State) (c : ClaimEntry) (g ownEnd : Int) : Nat :=
  (2 * (ownEnd - s.distance c.anchorLocal + g + 6).toNat + (-c.anchorOffset).toNat) / c.period.getD 1 + 2

/-- The guarded intervals of the occurrences of one CT entry that block an own activity over an own interval (R83, R87). -/
def State.blockingOf (s : State) (x : Activity) (own : Interval) (c : ClaimEntry) : List Interval :=
  match s.findPeer c.station with
  | none => []
  | some r =>
    if spectralConflict s.profile x c && (peerRank r c).stronger (s.ownRank x) then
      let g : Int := s.profile.guardTime
      (guardedRun (s.occupiedFromNow r c) g own.2 c.remaining (s.runBound c g own.2) 0).filter (meets own)
    else []

/-- The guarded intervals of every blocking occurrence CT holds (R87, R99, R127). -/
def State.blocking (s : State) (x : Activity) (own : Interval) : List Interval := s.ct.flatMap (s.blockingOf x own)

end Sys2Proof.Machine
end

