-- ==== Sys2Proof/Machine/Operands.lean ====
section
/-! DEFINITION. How the fields of records and frames are read: their codes, clamps and refusals (R14, R67, R130, R131, R170, R172, R199,
R201), and the codes of the fields the part sends. -/

namespace Sys2Proof.Machine

/-- A field as taken, with its number among the clamped fields when it was clamped. -/
structure Taken (α : Type) where
  value : α
  clamped : List Nat
  deriving DecidableEq, Repr

/-- A number clamped into `lo … hi`, reported as field `no` when that changed it. -/
def takeClamped (no lo hi n : Nat) : Taken Nat :=
  { value := clampNat lo hi n, clamped := if n = clampNat lo hi n then [] else [no] }

/-! ## Codes -/

/-- A class number; numbers above 4 are CRITICAL (R14, R67). -/
def PriorityClass.ofNumber : Nat → PriorityClass
  | 0 => .bulk
  | 1 => .normal
  | 2 => .link
  | 3 => .stream
  | _ => .critical

/-- A direction code; the fourth code is TXRX (R14, R201). -/
def Direction.ofCode (c : BitVec 2) : Direction :=
  match c with
  | 0 => .tx
  | 1 => .rx
  | _ => .txrx

/-- The code of a direction (R201). -/
def Direction.code : Direction → BitVec 2
  | .tx => 0
  | .rx => 1
  | .txrx => 2

/-- A power class; numbers above 3 are 3 (R14, R67). -/
def powerOf (n : Nat) : PowerClass := if h : n < 4 then ⟨n, h⟩ else 3

/-- A flag set of two bytes; positions beyond flag 11 are ignored (R179, R182, R202). -/
def flagSetOf (m : BitVec 16) : FlagSet := m.setWidth 11

/-- The least and greatest frequency of a span, and its greatest width, in MHz (R14). -/
def spanLeast : Nat := 2400
/-- The greatest frequency of a span (R14). -/
def spanGreatest : Nat := 8500
/-- The greatest width of a span (R14). -/
def spanWidth : Nat := 1000

/-- A span is taken: low not above high, and not wider than 1,000 MHz (R14, R67, R130). -/
def spanTaken (low high : Nat) : Bool := low ≤ high && high - low ≤ spanWidth

/-! ## SUBMIT (R14) -/

/-- The min duration as taken: below 10 it is 10, above the duration it is the duration (R14, field 13). -/
def takeMinDuration (duration : Nat) : Option (BitVec 16) → Taken (Option Nat)
  | none => { value := none, clamped := [] }
  | some m => { value := some (clampNat 10 duration m.toNat), clamped := (takeClamped 13 10 duration m.toNat).clamped }

/-- The fields of a SUBMIT after clamping, and the numbers of the clamped fields in ascending order (R14, R16). -/
def takeSubmit (r : SubmitRecord) : Taken Request :=
  let duration := takeClamped 4 10 65535 r.duration.toNat
  let low := takeClamped 9 spanLeast spanGreatest r.low.toNat
  let high := takeClamped 10 spanLeast spanGreatest r.high.toNat
  let receiveOnly := Direction.ofCode r.dir = .rx
  let minDuration := takeMinDuration duration.value r.minDuration
  { value :=
      { tag := r.tag
        startOffset := r.startOffset.toNat
        duration := duration.value
        slack := r.slack.toNat
        period := if r.periodic then some r.period.toNat else none
        count := if r.periodic then r.count.toNat else 1
        dir := Direction.ofCode r.dir
        low := low.value
        high := high.value
        power := if receiveOnly then 0 else powerOf r.power.toNat
        cls := PriorityClass.ofNumber r.cls.toNat
        minDuration := minDuration.value }
    clamped :=
      duration.clamped ++ (if r.dir = 3 then [8] else []) ++ low.clamped ++ high.clamped
        ++ (if !receiveOnly && 3 < r.power.toNat then [11] else [])
        ++ (if 4 < r.cls.toNat then [12] else []) ++ minDuration.clamped }

/-- The period of a request is taken: SINGLE, or within 100 … 1,000,000 µs and greater than the claim window (R14, R15). -/
def Request.periodTaken (q : Request) : Bool :=
  match q.period with
  | none => true
  | some p => 100 ≤ p && p ≤ 1000000 && q.claimWindow < p

/-! ## FAST_SPAN and the fast fields of SETUP (R130, R131) -/

/-- A fast span and fast power class. -/
structure FastFields where
  span : Span
  power : PowerClass
  deriving DecidableEq, Repr

/-- The fields of a FAST_SPAN record after clamping (R130). -/
def takeFastSpan (r : FastSpanRecord) : Taken FastFields :=
  let low := takeClamped 1 spanLeast spanGreatest r.low.toNat
  let high := takeClamped 2 spanLeast spanGreatest r.high.toNat
  { value := { span := ⟨low.value, high.value⟩, power := powerOf r.power.toNat }
    clamped := low.clamped ++ high.clamped ++ (if 3 < r.power.toNat then [3] else []) }

/-- The default fast span and fast power class of SETUP, fields 7 … 9: a high below low becomes low, and a high more than 1,000 MHz
above low becomes low + 1,000 MHz (R131, R199). -/
def takeSetupFast (r : SetupRecord) : Taken FastFields :=
  let low := takeClamped 7 spanLeast spanGreatest r.fastLow.toNat
  let high := clampNat low.value (low.value + spanWidth) (clampNat spanLeast spanGreatest r.fastHigh.toNat)
  { value := { span := ⟨low.value, high⟩, power := powerOf r.fastPower.toNat }
    clamped := low.clamped ++ (if r.fastHigh.toNat = high then [] else [8]) ++ (if 3 < r.fastPower.toNat then [9] else []) }

/-! ## SETUP (R170, R199) -/

/-- Four separations from field `no` on, each clamped into 0 … 1000 MHz (R170). -/
def takePowerTable (no : Nat) (f : PowerFields) : Taken PowerTable :=
  let p0 := takeClamped no 0 1000 f.p0.toNat
  let p1 := takeClamped (no + 1) 0 1000 f.p1.toNat
  let p2 := takeClamped (no + 2) 0 1000 f.p2.toNat
  let p3 := takeClamped (no + 3) 0 1000 f.p3.toNat
  { value := ⟨p0.value, p1.value, p2.value, p3.value⟩, clamped := p0.clamped ++ p1.clamped ++ p2.clamped ++ p3.clamped }

/-- A profile of SETUP, its fields numbered from `no` on, with epoch length E in µs (R170, R199). -/
def takeProfile (no epochLength : Nat) (r : ProfileRecord) : Taken Profile :=
  let share := takeClamped no 0 1000 r.share.toNat
  let allowance := takeClamped (no + 1) 0 epochLength r.allowance.toNat
  let fastMax := takeClamped (no + 3) 100 5000 r.fastMax.toNat
  let fastMin := takeClamped (no + 4) 10 fastMax.value r.fastMin.toNat
  let guardTime := takeClamped (no + 5) 0 255 r.guardTime.toNat
  let vict := takePowerTable (no + 6) r.vict
  let aggr := takePowerTable (no + 10) r.aggr
  let same := takeClamped (no + 14) 0 1000 r.same.toNat
  { value :=
      { share := share.value, allowance := allowance.value, fastEnable := r.fastEnable ≠ 0, fastMax := fastMax.value,
        fastMin := fastMin.value, guardTime := guardTime.value, vict := vict.value, aggr := aggr.value, same := same.value }
    clamped :=
      share.clamped ++ allowance.clamped ++ fastMax.clamped ++ fastMin.clamped ++ guardTime.clamped ++ vict.clamped
        ++ aggr.clamped ++ same.clamped }

/-- SETUP as taken (R198, R199). -/
structure SetupFields where
  lead : Nat
  epochLength : Nat
  debounce : Nat
  grace : Nat
  alertMask : FlagSet
  holdMask : FlagSet
  fast : FastFields
  initial : ProfileName
  profileA : Profile
  profileB : Profile
  deriving DecidableEq, Repr

/-- The fields of a SETUP after clamping, and the numbers of the clamped fields in ascending order (R199). -/
def takeSetup (r : SetupRecord) : Taken SetupFields :=
  let lead := takeClamped 1 200 20000 r.lead.toNat
  let units := takeClamped 2 4 64 r.epochUnits.toNat
  let debounce := takeClamped 3 0 15 r.debounce.toNat
  let fast := takeSetupFast r
  let profileA := takeProfile 11 (units.value * 1024) r.profileA
  let profileB := takeProfile 26 (units.value * 1024) r.profileB
  { value :=
      { lead := lead.value, epochLength := units.value * 1024, debounce := debounce.value, grace := r.grace.toNat,
        alertMask := flagSetOf r.alertMask, holdMask := flagSetOf r.holdMask, fast := fast.value,
        initial := if r.initial = 1 then .b else .a, profileA := profileA.value, profileB := profileB.value }
    clamped :=
      lead.clamped ++ units.clamped ++ debounce.clamped ++ fast.clamped
        ++ (if r.initial = 0 || r.initial = 1 then [] else [10]) ++ profileA.clamped ++ profileB.clamped }

/-- The profile a PROFILE_SELECT names: a code that names neither is B, and field 1 is clamped (R172). -/
def takeProfileCode (code : Byte) : Taken ProfileName :=
  { value := if code = 0 then .a else .b, clamped := if code = 0 || code = 1 then [] else [1] }

/-! ## Received frames (R51, R67) -/

/-- The sender epoch length of a beacon in µs: its units clamped into 4 … 64 (R51). -/
def beaconEpoch (b : BeaconBody) : Nat := clampNat 4 64 b.epochUnits.toNat * 1024

/-- The credit of a beacon, clamped into −1000 … +1000 (R51). -/
def beaconCredit (b : BeaconBody) : Int := max (-1000) (min 1000 b.credit.toInt)

/-- The profile of a beacon (R201). -/
def beaconProfile (b : BeaconBody) : ProfileName := if b.profileB then .b else .a

/-- The CT entry a CLAIM sets, with its start-mark latch, before lease and expiry; none when the frame is discarded (R67). -/
def takeClaim (st : Station) (b : ClaimBody) (latch : Time) : Option ClaimEntry :=
  let low := clampNat spanLeast spanGreatest (b.low.toNat + spanLeast)
  let high := clampNat spanLeast spanGreatest (b.high.toNat + spanLeast)
  let window := b.window.toNat
  let offset := b.anchorOffset.toInt
  let period := b.period.toNat
  let single := period = 0
  if !spanTaken low high || window < 10 || 131070 < window || offset < -131070 || 4000000 < offset
      || !(single || (100 ≤ period && period ≤ 1000000 && window < period)) then none
  else some
    { station := st
      tag := b.tag
      cls := PriorityClass.ofNumber b.cls.toNat
      dir := Direction.ofCode b.dir
      power := powerOf b.power.toNat
      low := low
      high := high
      window := window
      period := if single then none else some period
      remaining := if single then some 1 else if b.remaining = 0 then none else some b.remaining.toNat
      anchorLocal := latch
      anchorOffset := offset
      lastAnnouncement := latch
      lease := latch
      expiry := none }

end Sys2Proof.Machine
end

