-- ==== Sys2Proof/Machine/Grant.lean ====
section
/-! DEFINITION. GNT (R117), the overrun stretch that follows it (R140–R142), and the fast request (R123, R126, R127). -/

namespace Sys2Proof.Machine

/-- A fast grant is in force (R125). -/
def FastState.granting : FastState → Bool
  | .inForce _ _ => true
  | .idle | .spent => false

/-- The level of GNT as its law gives it (R117). -/
def State.gntLevel (s : State) : Bool :=
  if s.joined && !s.au.hold then 0 < s.openCount || s.gd.fast.granting else s.gd.fallback

/-- An overrun stretch is in progress: filtered ACT is high and GNT as driven is deasserted, while the meter runs (R140). -/
def State.stretchNow (s : State) : Bool := s.am.act.running && s.am.act.level && !s.gd.gnt

/-- The overrun state follows the stretch: it begins, or it ends and is counted when its length is grace + 1 µs (R141, R142). -/
def State.followStretch (s : State) : State :=
  match s.am.overrun, s.stretchNow with
  | .clear, true =>
    s.onAm fun m => { m with overrun := .timing, stretchStart := some s.now, countDeadline := some (later s.now (s.params.grace + 1)) }
  | .timing, false =>
    let ended := s.onAm fun m => { m with overrun := .clear, stretchStart := none, countDeadline := none }
    if s.am.stretchStart = some (s.now - BitVec.ofNat 32 (s.params.grace + 1)) then ended.countOverrun else ended
  | .counted, false => s.onAm fun m => { m with overrun := .clear, stretchStart := none, countDeadline := none }
  | .clear, false | .timing, true | .counted, true => s

/-- GD works out the level of GNT, drives it and hands it to AM (R116, R117, R140). -/
def State.driveGntOnce (s : State) : State := (s.onGd fun g => { g with gnt := s.gntLevel }).followStretch

/-- GNT after an event. A stretch counted when GNT changes may set the hold flag, and GNT is then worked out again (R117, R121, R142). -/
def State.driveGnt (s : State) : State := s.driveGntOnce.driveGntOnce

/-- What follows every event at its instant: GNT (R117), with the stretch that it ends or begins (R140–R142), and the contending frame
(R153). It is taken once, after all the event's own effects, so that an overrun counted here raises GRANT_OVERRUN behind the notices the
event queues. R185 leaves open where that raise stands among them: DESIGN CHOICE (notes/assumptions/45). -/
def State.settle (s : State) : State := s.driveGnt.checkContender

/-! ## The fast request -/

/-- The fast class given by PRI1 and PRI0 (R123). -/
def fastClass (pri : BitVec 2) : PriorityClass := match pri with
  | 0 => .bulk
  | 1 => .normal
  | 2 => .link
  | 3 => .stream

/-- The own side of a fast request (R127). The span and power class are present from SETUP acceptance on, so that no request reads the
values put for absent ones. -/
def State.fastActivity (s : State) (pri : BitVec 2) : Activity :=
  let span := s.gd.fastSpan.getD ⟨spanLeast, spanLeast⟩
  { cls := fastClass pri, dir := .txrx, power := s.gd.fastPower.getD 0, low := span.low, high := span.high }

/-- The fast end of a request, as a distance from the present: the earlier of F and the earliest guarded start (R127). -/
def State.fastEndOf (s : State) (pri : BitVec 2) : Int :=
  let f : Int := s.profile.fastMax
  (s.blocking (s.fastActivity pri) (0, f)).foldl (fun e p => min e p.1) f

/-- A fast request is refused without a test, or decided (R126, R127). -/
def State.decideFast (s : State) (pri : BitVec 2) : FastState :=
  if !s.profile.fastEnable || s.part = .joining then .spent
  else if (s.profile.fastMin : Int) ≤ s.fastEndOf pri then .inForce s.now (s.timeAt (s.fastEndOf pri))
  else .spent

/-- The fast end has fallen due (R128). -/
def State.fastEndDue (s : State) : Bool :=
  match s.gd.fast with
  | .inForce _ e => s.due e
  | .idle | .spent => false

end Sys2Proof.Machine
end

