-- ==== Sys2Proof/Machine/LineBits.lean ====
section
/-! DEFINITION. What LC makes of the edges and the recessive bits of CXL: the count toward line idle, and the timing of dominant stretches
(R147, R150, R162). -/

namespace Sys2Proof.Machine

/-- The receiver after an event of the line: in WAIT IDLE each recessive bit is counted as it ends, the 11th consecutive one ends in IDLE, and
the falling edge of a dominant bit sets the count back to 0 (R150). IDLE and FRAME are left by commands of their own. -/
def Receiver.follow : Receiver → LineEvent → Receiver
  | .waitIdle n, .recessiveBit => if n + 1 < Config.idleBits then .waitIdle (n + 1) else .idle
  | .waitIdle _, .fall => .waitIdle 0
  | .waitIdle n, .rise => .waitIdle n
  | .idle, _ => .idle
  | .frame, _ => .frame

/-- Line idle is reached at the last of these events: the end of the 11th consecutive recessive bit (R150). -/
def Receiver.reachesIdle (r : Receiver) (line : List LineEvent) : Bool :=
  line.dropLast.foldl Receiver.follow r != .idle && line.foldl Receiver.follow r == .idle

/-- LC after an event of the line in the microsecond `now`: a falling edge begins a dominant stretch, whatever the receiver state, and a rising
edge ends it (R150, R162). -/
def LineController.follow (now : Time) (l : LineController) (e : LineEvent) : LineController :=
  { l with
    receiver := l.receiver.follow e
    stretch := match e with
      | .fall => some (l.stretch.getD now)
      | .rise => none
      | .recessiveBit => l.stretch }

/-- An event of the line that has no row of its own. LINE_IDLE is the end of the 11th recessive bit, START_MARK a falling edge at line idle
(R150), and DOMINANT_STRETCH_END the end of a stretch that has been detected or that the own clear drive makes (R162, R163). A bit is
recessive on a line that no stretch holds dominant (R147). -/
def LineController.plainEvent (l : LineController) : LineEvent → Bool
  | .fall => l.receiver != .idle
  | .rise => !l.clearDetected && l.clearDrive.isNone
  | .recessiveBit => l.stretch.isNone && (l.receiver == .idle || l.receiver.follow .recessiveBit != .idle)

/-- Each of these events, in their order, has no row of its own. -/
def LineController.plainEvents (now : Time) : LineController → List LineEvent → Bool
  | _, [] => true
  | l, e :: rest => l.plainEvent e && LineController.plainEvents now (l.follow now e) rest

/-- No more bits end than a microsecond of bits of 0.5 µs can hold (R147). -/
def bitsFit (line : List LineEvent) : Bool := line.count .recessiveBit ≤ Config.bitsAtMost

/-- These events of the line can come about inside one microsecond, and none has a row of its own (R147; notes/assumptions/15). -/
def State.mayFollow (s : State) (line : List LineEvent) : Bool := bitsFit line && s.lc.plainEvents s.now line

/-- LC follows the line through these events, in their order (R150, R162). -/
def State.followLine (s : State) (line : List LineEvent) : State := s.onLc fun l => line.foldl (LineController.follow s.now) l

end Sys2Proof.Machine
end

