-- ==== Sys2Proof/Machine/Placement.lean ====
section
/-! DEFINITION. The decision of a commit over a set of guarded intervals: blocked pieces (R99), candidates and free runs (R100), full
and clipped placement (R101, R102), skip (R103). Every point is a signed distance from the present instant. -/

namespace Sys2Proof.Machine

/-- An interval put into its place of a list ordered by start. -/
def insertByStart (p : Interval) : List Interval → List Interval
  | [] => [p]
  | q :: qs => if p.1 ≤ q.1 then p :: q :: qs else q :: insertByStart p qs

/-- Intervals ordered by start are merged into the piece under construction while they overlap or touch it (R99). -/
def mergeInto (piece : Interval) : List Interval → List Interval
  | [] => [piece]
  | q :: qs => if q.1 ≤ piece.2 then mergeInto (piece.1, max piece.2 q.2) qs else piece :: mergeInto q qs

/-- The blocked pieces: the union of guarded intervals as maximal half-open intervals, earliest first (R99). -/
def blockedPieces (guarded : List Interval) : List Interval :=
  match guarded.foldr insertByStart [] with
  | [] => []
  | p :: ps => mergeInto p ps

/-- A point lies inside a blocked piece. -/
def insidePiece (pieces : List Interval) (t : Int) : Bool := pieces.any (fun p => p.1 ≤ t && t < p.2)

/-- The earlier of the window end and the earliest blocked start later than t (R100). -/
def runEnd (pieces : List Interval) (windowEnd t : Int) : Int :=
  pieces.foldl (fun e p => if t < p.1 then min e p.1 else e) windowEnd

/-- The free run of a candidate (R100). -/
def freeRun (pieces : List Interval) (windowEnd t : Int) : Int :=
  if insidePiece pieces t then 0 else runEnd pieces windowEnd t - t

/-- The candidates of a commit: the window start and every blocked end inside the slack, earliest first (R100). -/
def candidates (pieces : List Interval) (ws : Int) (slack : Nat) : List Int :=
  ws :: (pieces.map Prod.snd).filter (fun e => ws < e && e ≤ ws + slack)

/-- The decision for an occurrence: its placed start and length as offsets, or the reason of its skip. -/
inductive Decision where
  | grant (start : Int) (length : Nat)
  | clip (start : Int) (length : Nat)
  | skipStrongerPeer
  | skipJoining
  deriving DecidableEq, Repr

/-- Full placement, then clipped placement, then skip (R101, R102, R103). -/
def place (pieces : List Interval) (ws : Int) (duration slack : Nat) (minDuration : Option Nat) : Decision :=
  let windowEnd := ws + (duration + slack : Nat)
  let cands := candidates pieces ws slack
  match cands.find? (fun t => (duration : Int) ≤ freeRun pieces windowEnd t) with
  | some t => .grant t duration
  | none =>
    match minDuration with
    | none => .skipStrongerPeer
    | some m =>
      match cands.find? (fun t => (m : Int) ≤ freeRun pieces windowEnd t) with
      | some t => .clip t (min duration (freeRun pieces windowEnd t).toNat)
      | none => .skipStrongerPeer

end Sys2Proof.Machine
end

