-- ==== Sys2Proof/Machine/Commit.lean ====
section
/-! DEFINITION. The life of an occurrence: its commit (R97–R105), its end, advance and natural end (R28), the chain of immediate commits
(R106, R107), and the late test of a changed claim entry (R108–R112). -/

namespace Sys2Proof.Machine

/-! ## The end of an entry -/

/-- Occurrences ended, as REQ_END counts them (R35). -/
def Entry.occurrencesEnded (e : Entry) (reason : EndReason) : BitVec 32 :=
  match reason with
  | .done => e.index + 1
  | .cancelled | .halted => if e.state = .committed || e.state = .active then e.index + 1 else e.index

/-- The REQ_END notice of an entry (R35). -/
def Entry.reqEnd (e : Entry) (reason : EndReason) : Notice :=
  .reqEnd e.tag reason e.stage (e.occurrencesEnded reason) e.counters

/-- The occurrence the entry holds is its last (R28). -/
def Entry.onLast (e : Entry) : Bool :=
  match e.request.period with
  | none => true
  | some _ => e.request.count ≠ 0 && e.request.count ≤ e.index.toNat + 1

/-- The entry moved on to its next occurrence, with lead L (R28). -/
def Entry.advanced (e : Entry) (lead : Nat) : Entry :=
  let ws := later e.windowStart (e.request.period.getD 0)
  { e with index := e.index + 1, windowStart := ws, commitPoint := ws - BitVec.ofNat 32 lead, state := .waiting, placement := none }

/-- The occurrence an entry holds ends: the entry advances, or leaves with REQ_END DONE and without its queued CLAIM (R28). -/
def State.occurrenceEnds (s : State) (tag : Tag) : State :=
  match s.findEntry tag with
  | none => s
  | some e =>
    if e.onLast then ((s.removeEntry tag).offerNotice (e.reqEnd .done)).dequeue (.claim tag)
    else s.updateEntry tag (fun e => e.advanced s.params.lead)

/-! ## The commit -/

/-- The decision for the occurrence an entry holds, judged at the present instant (R97–R103). -/
def State.decide (s : State) (e : Entry) : Decision :=
  if s.part = .joining && e.effClass ≠ .critical then .skipJoining
  else
    let ws := s.distance e.windowStart
    let pieces := blockedPieces (s.blocking e.activity (ws, ws + (e.request.claimWindow : Nat)))
    place pieces ws e.request.duration e.request.slack e.request.minDuration

/-- An entry given a placement at its commit (R25). -/
def Entry.placed (e : Entry) (p : Placement) : Entry :=
  { e with
    state := .committed
    placement := some p
    stage := e.stage.raiseTo .committed
    counters :=
      if p.clipped then { e.counters with clipped := e.counters.clipped + 1 }
      else { e.counters with granted := e.counters.granted + 1 } }

/-- An entry whose occurrence is skipped (R25). -/
def Entry.skipped (e : Entry) : Entry := { e with counters := { e.counters with skipped := e.counters.skipped + 1 } }

/-- The result of a commit is written into the book, its OCCURRENCE notice is queued, and a skipped occurrence ends (R104, R105). -/
def State.applyDecision (s : State) (e : Entry) : Decision → State
  | .grant start len =>
    (s.updateEntry e.tag (fun e => e.placed ⟨s.timeAt start, len, false⟩)).offerNotice
      (.occurrence e.tag e.index .grant (s.timeAt start) len s.au.hold)
  | .clip start len =>
    (s.updateEntry e.tag (fun e => e.placed ⟨s.timeAt start, len, true⟩)).offerNotice
      (.occurrence e.tag e.index .clip (s.timeAt start) len s.au.hold)
  | .skipStrongerPeer =>
    ((s.updateEntry e.tag Entry.skipped).offerNotice
      (.occurrence e.tag e.index .skipStrongerPeer e.windowStart 0 s.au.hold)).occurrenceEnds e.tag
  | .skipJoining =>
    ((s.updateEntry e.tag Entry.skipped).offerNotice
      (.occurrence e.tag e.index .skipJoining e.windowStart 0 s.au.hold)).occurrenceEnds e.tag

/-- One commit of an entry's occurrence (R98). -/
def State.commit (s : State) (e : Entry) : State := s.applyDecision e (s.decide e)

/-- The entry is WAITING and its commit point has fallen due. -/
def State.commitDue (s : State) (e : Entry) : Bool := e.state == .waiting && s.due e.commitPoint

/-- A chain of commits of one entry: each link commits the occurrence held while its commit point has fallen due (R28, R107). -/
def State.commitLinks (tag : Tag) : Nat → State → State
  | 0, s => s
  | n + 1, s =>
    match s.findEntry tag with
    | none => s
    | some e => if s.commitDue e then commitLinks tag n (s.commit e) else s

/-- The number of links a chain can have: the occurrences whose commit point is not in the future (notes/assumptions/19). -/
def State.linkBound (s : State) (e : Entry) : Nat :=
  ((s.params.lead : Int) - s.distance e.windowStart).toNat / e.request.period.getD 1 + 1

/-- Commits of an entry that fall due at the present instant are made at once (R94, R106). That they come before the commit point of another
entry due at the same instant, whatever the book order, is a DESIGN CHOICE (notes/assumptions/38). -/
def State.commitWhileDue (s : State) (tag : Tag) : State :=
  match s.findEntry tag with
  | none => s
  | some e => State.commitLinks tag (s.linkBound e) s

/-- An occurrence ends, and the commits that then fall due are made (R28). -/
def State.endOccurrence (s : State) (tag : Tag) : State := (s.occurrenceEnds tag).commitWhileDue tag

/-! ## Late stronger conflicts -/

/-- The remaining part of an entry's placement, as signed distances (R108). -/
def State.remainingPart (s : State) (e : Entry) (p : Placement) : Interval :=
  let ps := s.distance p.start
  (if e.state = .active then max ps 0 else ps, ps + (p.length : Nat))

/-- The cut point: the earliest guarded start among the late blocking occurrences (R109). -/
def cutPoint : List Interval → Option Int
  | [] => none
  | p :: ps =>
    match cutPoint ps with
    | none => some p.1
    | some a => some (min p.1 a)

/-- The request may be clipped and the length left by a cut point is at least its min duration (R110, R111). -/
def Entry.keepsEnough (e : Entry) (left : Int) : Bool :=
  match e.request.minDuration with
  | some m => (m : Int) ≤ left
  | none => false

/-- An entry whose placement gets a new length (R26, R27). -/
def Entry.cutTo (e : Entry) (len : Nat) : Entry :=
  { e with
    placement := e.placement.map (fun p => { p with length := len })
    counters := { e.counters with cut := e.counters.cut + 1 } }

/-- An entry whose placement is retracted (R26). -/
def Entry.retracted (e : Entry) : Entry :=
  { e with placement := none, counters := { e.counters with retracted := e.counters.retracted + 1 } }

/-- An entry whose open window runs on as a late overlap (R27). -/
def Entry.overlapped (e : Entry) : Entry :=
  { e with counters := { e.counters with lateOverlaps := e.counters.lateOverlaps + 1 } }

/-- The late rule for a COMMITTED placement with cut point `a` (R110). -/
def State.lateCommitted (s : State) (e : Entry) (p : Placement) (a : Int) : State :=
  let left := a - s.distance p.start
  if e.keepsEnough left then
    (s.updateEntry e.tag (fun e => e.cutTo left.toNat)).offerNotice (.occChange e.tag e.index .cut left.toNat)
  else
    ((s.updateEntry e.tag Entry.retracted).offerNotice (.occChange e.tag e.index .retract 0)).endOccurrence e.tag

/-- The late rule for an ACTIVE placement with cut point `a` (R111). -/
def State.lateActive (s : State) (e : Entry) (p : Placement) (a : Int) : State :=
  let ps := s.distance p.start
  if e.keepsEnough (a - ps) then
    let newEnd := max a 0
    let cut := (s.updateEntry e.tag (fun e => e.cutTo (newEnd - ps).toNat)).offerNotice
      (.occChange e.tag e.index .cut (newEnd - ps).toNat)
    if newEnd = 0 then cut.endOccurrence e.tag else cut
  else (s.updateEntry e.tag Entry.overlapped).countLateOverlap

/-- The late test of a changed claim entry against the placement of one book entry (R108, R109). -/
def State.lateTestOne (c : ClaimEntry) (s : State) (tag : Tag) : State :=
  match s.findEntry tag with
  | none => s
  | some e =>
    match e.placement with
    | none => s
    | some p =>
      match cutPoint (s.blockingOf e.activity (s.remainingPart e p) c) with
      | none => s
      | some a =>
        match e.state with
        | .committed => s.lateCommitted e p a
        | .active => s.lateActive e p a
        | .waiting | .retiring => s

/-- The late test of a changed claim entry against every COMMITTED or ACTIVE placement, in book order (R108, R112). That the immediate commits
after a placement that ends come before the next placement is tested is a DESIGN CHOICE (notes/assumptions/39). -/
def State.lateTest (s : State) (c : ClaimEntry) : State := (s.bookOrder.map Entry.tag).foldl (State.lateTestOne c) s

end Sys2Proof.Machine
end

