-- ==== Sys2Proof/Machine/Claims.lean ====
section
/-! DEFINITION. The peer claim table: storing a claim, eviction, withdrawal, drops, lease and expiry (R66–R72). -/

namespace Sys2Proof.Machine

/-- The entry of a station and tag is removed (R69, R70, R71). -/
def State.removeClaim (s : State) (st : Station) (tag : Tag) : State :=
  s.onCt (List.filter (fun c => !(c.station == st && c.tag == tag)))

/-- Every entry of a station is dropped (R42, R55, R72). -/
def State.dropClaims (s : State) (st : Station) : State := s.onCt (List.filter (fun c => c.station != st))

/-- One entry is to be evicted before another: earlier last announcement, then lower tag (R68). -/
def State.evictedBefore (s : State) (a b : ClaimEntry) : Bool :=
  s.distance a.lastAnnouncement < s.distance b.lastAnnouncement ||
    (s.distance a.lastAnnouncement == s.distance b.lastAnnouncement && a.tag.toNat ≤ b.tag.toNat)

/-- The entry to evict among some entries (R68). -/
def State.evictee (s : State) : List ClaimEntry → Option ClaimEntry
  | [] => none
  | c :: rest =>
    match s.evictee rest with
    | none => some c
    | some d => if s.evictedBefore c d then some c else some d

/-- A station that already has 16 entries loses its oldest one, and VIEW_GAP is raised (R68). -/
def State.evict (s : State) (st : Station) : State :=
  if (s.claimsOf st).length < Config.claimsPerStation then s
  else match s.evictee (s.claimsOf st) with
    | some c => (s.removeClaim st c.tag).raiseAlarm .viewGap
    | none => s

/-- The entry with its lease deadline and its expiry point (R70, R71). -/
def State.withDeadlines (s : State) (c : ClaimEntry) : ClaimEntry :=
  let timeout := (s.findPeer c.station).elim s.tb.epochLength s.timeoutEpoch
  let leased := { c with lease := later c.lastAnnouncement (10 * timeout) }
  { leased with expiry := s.expiryOf leased }

/-- An entry is stored: it replaces the entry of its key, or is added, after an eviction when the station has 16 (R67, R68). -/
def State.putClaim (s : State) (c : ClaimEntry) : State :=
  match s.findClaim c.station c.tag with
  | some _ => s.onCt (List.map (fun d => if d.station == c.station && d.tag == c.tag then c else d))
  | none => (s.evict c.station).onCt (fun ct => ct ++ [c])

/-- An entry whose expiry point has come out at or before the present instant is removed at once (R71). -/
def State.removeIfExpired (s : State) (c : ClaimEntry) : State :=
  if s.dueSome c.expiry then s.removeClaim c.station c.tag else s

/-- CT takes a CLAIM or SHORT CLAIM: it is discarded, or stored, handed to PE for the late test, and removed when it has already
ended (R67, R71, R108). -/
def State.takeClaimFrame (s : State) (st : Station) (b : ClaimBody) (latch : Time) : State :=
  match takeClaim st b latch with
  | none => s
  | some c =>
    let entry := s.withDeadlines c
    ((s.putClaim entry).lateTest entry).removeIfExpired entry

/-- The lease deadline of an entry has fallen due. -/
def State.leaseDue (s : State) (c : ClaimEntry) : Bool := s.due c.lease

/-- The expiry point of an entry has fallen due. -/
def State.expiryDue (s : State) (c : ClaimEntry) : Bool := s.dueSome c.expiry

end Sys2Proof.Machine
end

