-- ==== Sys2Proof/Machine/PeerRecords.lean ====
section
/-! DEFINITION. Peer records: hearing a station (R40), deadlines (R41, R42), restart (R55), beacon fields (R51), offset and drift
(R52–R54), view check (R56), and the records at a line clear (R57). -/

namespace Sys2Proof.Machine

/-- The QUIET deadline of a LIVE record has fallen due (R41). -/
def State.quietDue (s : State) (r : PeerRecord) : Bool := r.state == .live && s.dueSome r.quietDeadline

/-- The LOST deadline of a LIVE or QUIET record has fallen due (R41). -/
def State.lostDue (s : State) (r : PeerRecord) : Bool :=
  (r.state == .live || r.state == .quiet) && s.dueSome r.lostDeadline

/-- The margin or drift of a station's record has changed: its entries' expiry points are computed afresh (R71). -/
def State.recomputeStation (s : State) (st : Station) : State := s.recomputeExpiry (fun c => c.station == st)

/-- A record that has heard its station: last heard, deadlines and LIVE (R40). -/
def PeerRecord.heard (r : PeerRecord) (latch : Time) (timeout : Nat) : PeerRecord :=
  { r with
    state := .live
    lastHeard := some latch
    quietDeadline := some (later latch (3 * timeout))
    lostDeadline := some (later latch (10 * timeout)) }

/-- PR takes a valid frame of a station with this timeout epoch length: the record becomes LIVE; from UNHEARD or LOST a catch-up is
started, and from QUIET the station's expiry points are computed afresh (R40, R43, R71). -/
def State.hear (s : State) (st : Station) (latch : Time) (timeout : PeerRecord → Nat) : State :=
  match s.findPeer st with
  | none => s
  | some r =>
    let heard := s.updatePeer st (fun r => r.heard latch (timeout r))
    match r.state with
    | .unheard | .lost => heard.catchUp
    | .quiet => heard.recomputeStation st
    | .live => heard

/-- A record at the restart of its sender (R55). -/
def PeerRecord.restarted (r : PeerRecord) : PeerRecord :=
  { r with lastOffset := none, offsetLatch := none, driftCount := 0, mismatch := 0 }

/-- The restart check of a beacon: FRESH after a plain beacon drops the station's claims and starts a catch-up (R55). -/
def State.restartCheck (s : State) (st : Station) (b : BeaconBody) : State :=
  match s.findPeer st with
  | none => s
  | some r =>
    if b.fresh && r.lastFresh == some false then ((s.updatePeer st PeerRecord.restarted).dropClaims st).catchUp else s

/-- The sender fields of a beacon (R51). -/
def PeerRecord.withFields (r : PeerRecord) (b : BeaconBody) : PeerRecord :=
  { r with
    senderEpoch := some (beaconEpoch b)
    credit := beaconCredit b
    senderHold := some b.hold
    senderProfile := some (beaconProfile b)
    lastLiveCount := some b.liveCount.toNat }

/-- The drift sample of a step, rounded and clamped (R54). -/
def driftSample (diff : Int) (delta : Nat) : Int := max (-3200) (min 3200 (roundDiv (diff * 16000000) delta))

/-- The record after a drift sample is filtered in (R54). -/
def PeerRecord.filterDrift (r : PeerRecord) (d : Int) : PeerRecord :=
  { r with
    drift := if r.driftCount = 0 then d else r.drift + (d - r.drift).tdiv 4
    driftCount := min 8 (r.driftCount + 1) }

/-- The record judges a measured step (R53). -/
def PeerRecord.judgeStep (r : PeerRecord) (delta : Nat) (diff : Int) : PeerRecord :=
  if delta < 2048 || 4194304 < delta then { r with driftCount := 0 }
  else if delta < diff.natAbs * 1000 then { r with driftCount := 0, jumps := saturatingSucc r.jumps }
  else r.filterDrift (driftSample diff delta)

/-- The offset sample of a beacon (R52). -/
def offsetOf (b : BeaconBody) (latch : Time) : Int := (b.timestamp - latch).toInt

/-- The record takes an offset sample: the first of a run is stored, a later one measures a step first (R52, R53). -/
def PeerRecord.takeOffset (r : PeerRecord) (o : Int) (latch : Time) : PeerRecord :=
  let judged :=
    match r.lastOffset, r.offsetLatch with
    | some o', some latch' => r.judgeStep (latch - latch').toNat (BitVec.ofInt 32 (o - o')).toInt
    | _, _ => r
  { judged with lastOffset := some o, offsetLatch := some latch }

/-- Step 4 of a beacon: the offset sample, and expiry points computed afresh when D or the sample count has changed (R50, R52, R71). -/
def State.offsetStep (s : State) (st : Station) (b : BeaconBody) (latch : Time) : State :=
  match s.findPeer st with
  | none => s
  | some r =>
    let after := s.updatePeer st (fun r => r.takeOffset (offsetOf b latch) latch)
    let r' := r.takeOffset (offsetOf b latch) latch
    if r'.drift = r.drift && r'.driftCount = r.driftCount then after else after.recomputeStation st

/-- Step 5 of a beacon: the view check (R56). -/
def State.viewCheck (s : State) (st : Station) (b : BeaconBody) : State :=
  match s.findPeer st with
  | none => s
  | some r =>
    if b.fresh || b.liveCount.toNat = (s.claimsOf st).length then s.updatePeer st (fun r => { r with mismatch := 0 })
    else if r.mismatch = 0 then s.updatePeer st (fun r => { r with mismatch := 1 })
    else s.raiseAlarm .viewGap

/-- A BEACON is handled by the sender's record in its six steps (R50). -/
def State.takeBeacon (s : State) (st : Station) (b : BeaconBody) (latch : Time) : State :=
  let heard := s.hear st latch (fun _ => beaconEpoch b)
  let checked := heard.restartCheck st b
  let fields := checked.updatePeer st (fun r => r.withFields b)
  let sampled := fields.offsetStep st b latch
  let viewed := sampled.viewCheck st b
  viewed.updatePeer st (fun r => { r with lastFresh := some b.fresh })

/-- A record on entry to LOST (R42). The last announced live claim count, which R42 names neither as changed nor as kept, is kept: DESIGN
CHOICE (notes/assumptions/41). -/
def PeerRecord.lost (r : PeerRecord) : PeerRecord :=
  { r with
    state := .lost
    quietDeadline := none
    lostDeadline := none
    lastOffset := none
    offsetLatch := none
    driftCount := 0
    mismatch := 0 }

/-- A record on entry to QUIET; the deadline that has fallen due is no longer held (R41, and the example of section 3.2). -/
def PeerRecord.quiet (r : PeerRecord) : PeerRecord := { r with state := .quiet, quietDeadline := none }

/-- A record at a line clear: after-reset values, but D and the jump counter are kept (R57). -/
def PeerRecord.cleared (r : PeerRecord) : PeerRecord :=
  { PeerRecord.fresh r.station with drift := r.drift, jumps := r.jumps }

end Sys2Proof.Machine
end

