-- ==== Sys2Proof/Machine/Part.lean ====
section
/-! DEFINITION. Changes of the part as a whole: entry into JOINING (R95), the actions at a line clear (R164), entry to HALTED (R11), and
the points that have fallen due. -/

namespace Sys2Proof.Machine

/-- The part enters JOINING: PE takes the joining state, PR sets fresh owed and asks for a FRESH beacon (R45, R46, R95). -/
def State.enterJoining (s : State) : State :=
  ((s.onPe fun p => { p with joining := .joining, joiningStart := none, joiningEnd := none }).onPr
    fun p => { p with freshOwed := true, firstFresh := none }).askBeacon

/-! ## The line clear -/

/-- The book at a line clear: RETIRING entries leave and every other claim is held (R36). -/
def bookAtClear (book : List Entry) : List Entry := (book.filter Entry.standing).map fun e => { e with held := true }

/-- LC at the detection of a line clear: the own frame is cut, the queue is emptied and the frame being taken is dropped with its latch
(R156, R162, R164). The receiver goes to WAIT IDLE when the stretch ends, and the driver stays dominant while the own clear drive is in
force. -/
def LineController.atClear (l : LineController) : LineController :=
  { l with
    driver := if l.clearDrive.isSome then .dominant else .released
    receiver := l.receiver.follow .fall
    latch := none
    queue := []
    contending := none
    inTransmission := none
    clearDetected := true }

/-- The dominant stretch being timed, if any, has lasted 64 bit times (R162). -/
def State.stretchLong (s : State) : Bool := s.dueSome (s.lc.stretch.map (fun t => later t Config.clearStretch))

/-- The actions of every station at the detection of a line clear, in their order (R164). -/
def State.lineClear (s : State) : State :=
  let origin : ClearOrigin := if s.lc.clearDrive.isSome then .self else .line
  let joined := s.joined
  let emptied := s.onCt fun _ => []
  let unheard := emptied.onPr fun p => { p with records := p.records.map PeerRecord.cleared }
  let cleared := unheard.onLc LineController.atClear
  let rejoined := if joined then (cleared.onBook bookAtClear).enterJoining else cleared
  let reported := rejoined.offerNotice (.lineCleared origin s.now)
  if joined then reported.onLc fun l => { l with ack := .awaiting (later s.now Config.acknowledgeWait) } else reported

/-! ## Entry to HALTED -/

/-- The book on entry to HALTED: REQ_END HALTED in book order for each entry not RETIRING, and the book is empty (R37). -/
def State.bookHalted (s : State) : State :=
  ((s.bookOrder.map (fun e => e.reqEnd .halted)).foldl State.offerNotice s).onBook fun _ => []

/-- TB on entry to HALTED: the prescale count is dropped, the epoch timer and the monitor stop (R11). The good-window run and the counts
of the window then standing have no stated value: 0, DESIGN CHOICE (notes/assumptions/34). -/
def Timebase.halt (t : Timebase) : Timebase :=
  { t with prescale := 0, timerRunning := false, monitor := .clockLost, windowCount := 0, rcCycles := 0, goodRun := 0 }

/-- LC on entry to HALTED (R168). -/
def LineController.halt (l : LineController) : LineController :=
  { l with
    driver := .released
    latch := none
    queue := []
    contending := none
    inTransmission := none
    stretch := none
    clearDetected := false
    clearDrive := none }

/-- AM on entry to HALTED: the filter stops with the level it holds, and a stretch in progress ends without a count (R146). R146 does not
name the filter's count of samples of a new level: it is kept, DESIGN CHOICE (notes/assumptions/42). -/
def Meter.halt (m : Meter) : Meter :=
  { m with act := { m.act with running := false }, overrun := .clear, stretchStart := none, countDeadline := none }

/-- GD on entry to HALTED: the fast grant ends and the RQ filter stops with the level it holds (R122, R124, R125). R124 does not name its
count of samples of a new level: it is kept, DESIGN CHOICE (notes/assumptions/42). -/
def GrantDriver.halt (g : GrantDriver) : GrantDriver := { g with rq := { g.rq with running := false }, fast := .idle }

/-- Entry to HALTED: CLOCK_LOST is raised, both conditions become absent, and each block makes its reaction (R10, R11, R190). The raise
is taken before the REQ_ENDs are queued (DESIGN CHOICE, notes/assumptions/10). -/
def State.enterHalted (s : State) : State :=
  let raised := (s.onTb Timebase.halt).raiseAlarm .clockLost
  let absent := raised.onAu fun u => { u with suspectCondition := false, stuckCondition := false }
  let halted : State := { absent with halted := true }
  ((halted.bookHalted.onGd GrantDriver.halt).onLc LineController.halt).onAm Meter.halt

/-! ## Points that have fallen due -/

/-- The placed start of a COMMITTED entry has fallen due (R119). -/
def State.startDue (s : State) (e : Entry) : Bool :=
  e.state == .committed && s.dueSome (e.placement.map (·.start))

/-- The placed end of an ACTIVE entry has fallen due (R119). -/
def State.endDue (s : State) (e : Entry) : Bool :=
  e.state == .active && s.dueSome (e.placement.map Placement.endsAt)

/-- The count deadline has fallen due (R141). -/
def State.countDue (s : State) : Bool := s.am.overrun == .timing && s.dueSome s.am.countDeadline

/-- The joining end has fallen due (R96). -/
def State.joiningEndDue (s : State) : Bool := s.pe.joining == .joining && s.dueSome s.pe.joiningEnd

/-- The acknowledge deadline has fallen due (R165). -/
def State.ackDue (s : State) : Bool :=
  match s.lc.ack with
  | .awaiting d => s.due d
  | .noClear | .expired => false

/-- The clear drive has reached its end (R163). -/
def State.driveEndDue (s : State) : Bool := s.dueSome s.lc.clearDrive

/-- The dominant stretch being timed has lasted 64 bit times, and no line clear has been detected for it (R162). -/
def State.clearDue (s : State) : Bool := !s.lc.clearDetected && s.stretchLong

/-- A detected stretch has lasted 2,000 µs, and the LINE_STUCK condition is not present (R166). -/
def State.stuckDue (s : State) : Bool :=
  s.lc.clearDetected && !s.au.stuckCondition && s.dueSome (s.lc.stretch.map (fun t => later t Config.stuckStretch))

/-- The monitor window has reached its end by the edges or cycles counted (R9). -/
def Timebase.windowFull (t : Timebase) : Bool := Config.windowEdges ≤ t.windowCount || Config.windowCycles ≤ t.rcCycles

end Sys2Proof.Machine
end

