-- ==== Sys2Proof/Machine/Clock.lean ====
section
/-! DEFINITION. The commands of the timebase: MICROSECOND_ADVANCE, MONITOR_WINDOW_CLOSE, EPOCH_BOUNDARY (R1, R7–R11, R133, R134). -/

namespace Sys2Proof.Machine

/-! ## The advance of local time -/

/-- Some point has fallen due and has not been taken: it is taken before local time advances again (R2; notes/assumptions/4). -/
def State.anyDue (s : State) : Bool :=
  s.boundaryDue || s.book.any (fun e => s.commitDue e || s.startDue e || s.endDue e)
    || s.am.act.due s.params.debounce || s.gd.rq.due s.params.debounce || s.countDue || s.fastEndDue
    || s.pr.records.any (fun r => s.quietDue r || s.lostDue r) || s.ct.any (fun c => s.leaseDue c || s.expiryDue c)
    || s.joiningEndDue || s.ackDue || s.driveEndDue || s.clearDue || s.stuckDue || s.tb.windowFull

/-- REFCLK edges from now to the 24th edge of the microsecond (R1). -/
def Timebase.edgesLeft (t : Timebase) : Nat := Config.edgesPerMicrosecond - t.prescale

/-- The advance is the next thing to happen: no point is due, no event of CXL with a row of its own has come about, and the monitor
window does not close before it (R2, R9, R150, R162). -/
def State.mayAdvance (rc : Nat) (line : List LineEvent) (s : State) : Bool :=
  s.working && !s.anyDue && s.mayFollow line && s.tb.windowCount + s.tb.edgesLeft ≤ Config.windowEdges && s.tb.rcCycles + rc ≤ Config.windowCycles

/-- TB at the advance: local time by one, and the edges and cycles of the window counted, those since the last advance or window close
(R1, R9; notes/assumptions/8). -/
def Timebase.advance (rc : Nat) (t : Timebase) : Timebase :=
  { t with localTime := t.localTime + 1, prescale := 0, windowCount := t.windowCount + t.edgesLeft, rcCycles := t.rcCycles + rc }

/-- AM at the advance: the microsecond that ends is added when it was used, and the ACT filter samples the pin (R133, R134). -/
def Meter.advance (act : Bool) (m : Meter) : Meter :=
  { m with usage := if m.act.running && m.act.level then m.usage + 1 else m.usage, act := m.act.sample act }

/-- Local time advances by one, after LC has followed the line through the microsecond (R1, R124, R133, R134, R150, R162). -/
def State.advance (rc : Nat) (act rq : Bool) (line : List LineEvent) (s : State) : State :=
  (((((s.followLine line).onPins fun p => { p with act := act, rq := rq }).onTb (Timebase.advance rc)).onAm (Meter.advance act)).onGd
    fun g => { g with rq := g.rq.sample rq }).settle

/-- MICROSECOND_ADVANCE (R1). -/
def execMicrosecondAdvance (rc : Nat) (act rq : Bool) (s : State) (line : List LineEvent := []) : Host.Outcome State Fault Refusal :=
  occurs (s.mayAdvance rc line) (State.advance rc act rq line) s

/-! ## The clock monitor -/

/-- The verdict on a window (R9). -/
inductive Verdict where
  | noReference | outOfRange | inRange
  deriving DecidableEq, Repr

/-- The verdict on a count at close (R9). -/
def verdictOf (count : Nat) : Verdict :=
  if count = 0 then .noReference
  else if count ≤ 5529 then .outOfRange
  else if count ≤ 6758 then .inRange
  else .outOfRange

/-- TB at the close of a window: the edges pass, and a new window opens (R9). -/
def Timebase.closeWindow (edges : Nat) (t : Timebase) : Timebase :=
  { t with prescale := t.prescale + edges, windowCount := 0, rcCycles := 0 }

/-- The monitor enters CLOCK_SUSPECT: the condition becomes present, its flag is raised, and every projection uses 200 ppm (R10, R71, R181). -/
def State.enterSuspect (s : State) : State :=
  (((s.onTb fun t => { t with monitor := .clockSuspect, goodRun := 0 }).recomputeExpiry fun _ => true).onAu
    fun u => { u with suspectCondition := true }).raiseAlarm .clockSuspect

/-- The monitor returns to CLOCK_OK: the condition becomes absent, and the flag stays as it stands (R10, R71, R181). -/
def State.leaveSuspect (s : State) : State :=
  ((s.onTb fun t => { t with monitor := .clockOk, goodRun := 0 }).recomputeExpiry fun _ => true).onAu
    fun u => { u with suspectCondition := false }

/-- The monitor acts on a verdict according to its state (R10). -/
def State.judgeWindow (v : Verdict) (s : State) : State :=
  match v, s.tb.monitor with
  | .noReference, _ => s.enterHalted
  | .inRange, .clockSuspect =>
    if s.tb.goodRun + 1 < 16 then s.onTb fun t => { t with goodRun := t.goodRun + 1 } else s.leaveSuspect
  | .outOfRange, .clockOk => s.enterSuspect
  | .outOfRange, .clockSuspect => s.onTb fun t => { t with goodRun := 0 }
  | .inRange, .clockOk | .inRange, .clockLost | .outOfRange, .clockLost => s

/-- The window closes with its count as the verdict (R9, R10). -/
def State.closeWindow (edges : Nat) (s : State) : State :=
  ((s.onTb (Timebase.closeWindow edges)).judgeWindow (verdictOf (s.tb.windowCount + edges))).settle

/-- A window can close these edges after the last advance or close: before the 24th edge, at the 6,759th at the latest, and with no
further edge once its 2,048 RC cycles have been counted (R9; notes/assumptions/8). -/
def State.mayClose (edges : Nat) (s : State) : Bool :=
  s.working && s.tb.prescale + edges < Config.edgesPerMicrosecond && s.tb.windowCount + edges ≤ Config.windowEdges
    && (s.tb.rcCycles < Config.windowCycles || edges == 0)

/-- MONITOR_WINDOW_CLOSE (R9, R10, R11). -/
def execMonitorWindowClose (edges : Nat) (s : State) : Host.Outcome State Fault Refusal :=
  occurs (s.mayClose edges) (State.closeWindow edges) s

/-! ## The epoch boundary -/

/-- EPOCH_BOUNDARY (R7, R8). -/
def execEpochBoundary (s : State) : Host.Outcome State Fault Refusal :=
  occurs (s.working && s.boundaryDue) (fun s => s.takeBoundary.settle) s

end Sys2Proof.Machine
end

