-- ==== Sys2Proof/Machine/Deadlines.lean ====
section
/-! DEFINITION. The deadlines of peers, of their claims and of the acknowledge wait: QUIET_DEADLINE, LOST_DEADLINE, LEASE_DEADLINE,
EXPIRY_POINT, ACKNOWLEDGE_DEADLINE (R41, R42, R70, R71, R165). -/

namespace Sys2Proof.Machine

/-- The QUIET deadline of a record is taken when it has fallen due: the record enters QUIET, and its entries are projected with the wider
margin (R41, R71). -/
def State.takeQuietDeadline (st : Station) (s : State) : State :=
  match s.findPeer st with
  | none => s
  | some r => if s.quietDue r then ((s.updatePeer st PeerRecord.quiet).recomputeStation st).settle else s

/-- The LOST deadline of a record is taken when it has fallen due: the record enters LOST and CT drops the station's entries (R41, R42). -/
def State.takeLostDeadline (st : Station) (s : State) : State :=
  match s.findPeer st with
  | none => s
  | some r => if s.lostDue r then ((s.updatePeer st PeerRecord.lost).dropClaims st).settle else s

/-- The lease deadline of an entry is taken when it has fallen due: the entry is removed (R70). -/
def State.takeLeaseDeadline (st : Station) (tag : Tag) (s : State) : State :=
  match s.findClaim st tag with
  | none => s
  | some c => if s.leaseDue c then s.removeClaim st tag else s

/-- The expiry point of an entry is taken when it has fallen due: the entry is removed (R71). -/
def State.takeExpiryPoint (st : Station) (tag : Tag) (s : State) : State :=
  match s.findClaim st tag with
  | none => s
  | some c => if s.expiryDue c then s.removeClaim st tag else s

/-- The acknowledge deadline: the wait has expired, and CLEAR_UNACKED is raised (R165). -/
def State.takeAcknowledgeDeadline (s : State) : State :=
  ((s.onLc fun l => { l with ack := .expired }).raiseAlarm .clearUnacked).settle

/-- QUIET_DEADLINE (R41). -/
def execQuietDeadline (st : Station) (s : State) : Host.Outcome State Fault Refusal := occurs s.working (State.takeQuietDeadline st) s

/-- LOST_DEADLINE (R42). -/
def execLostDeadline (st : Station) (s : State) : Host.Outcome State Fault Refusal := occurs s.working (State.takeLostDeadline st) s

/-- LEASE_DEADLINE (R70). -/
def execLeaseDeadline (st : Station) (tag : Tag) (s : State) : Host.Outcome State Fault Refusal :=
  occurs s.working (State.takeLeaseDeadline st tag) s

/-- EXPIRY_POINT (R71). -/
def execExpiryPoint (st : Station) (tag : Tag) (s : State) : Host.Outcome State Fault Refusal :=
  occurs s.working (State.takeExpiryPoint st tag) s

/-- ACKNOWLEDGE_DEADLINE (R165). -/
def execAcknowledgeDeadline (s : State) : Host.Outcome State Fault Refusal :=
  occurs (s.working && s.ackDue) State.takeAcknowledgeDeadline s

end Sys2Proof.Machine
end

