-- ==== Sys2Proof/Machine/Inputs.lean ====
section
/-! DEFINITION. The commands of the ACT and RQ inputs: ACT_LEVEL_TAKEN, COUNT_DEADLINE, RQ_RISE, RQ_FALL, FAST_END (R123–R128, R133,
R140–R142). -/

namespace Sys2Proof.Machine

/-- The ACT filter takes a new level (R133, R140). -/
def State.takeActLevel (s : State) : State := (s.onAm fun m => { m with act := m.act.take }).settle

/-- The overrun count deadline: the stretch is counted (R141, R142). -/
def State.takeCountDeadline (s : State) : State :=
  ((s.onAm fun m => { m with overrun := .counted, countDeadline := none }).countOverrun).settle

/-- The RQ filter takes a high level: a fast request is made (R124, R126, R127). -/
def State.takeRqRise (pri : BitVec 2) (s : State) : State :=
  let presented := s.onPins fun p => { p with pri := pri }
  (presented.onGd fun g => { g with rq := g.rq.take, fast := presented.decideFast pri }).settle

/-- The RQ filter takes a low level: a fast grant ends, and the record enters FAST IDLE (R125, R128). -/
def State.takeRqFall (s : State) : State := (s.onGd fun g => { g with rq := g.rq.take, fast := .idle }).settle

/-- The fast end: the grant ends, and the record enters SPENT (R125, R128). -/
def State.takeFastEnd (s : State) : State := (s.onGd fun g => { g with fast := .spent }).settle

/-- ACT_LEVEL_TAKEN (R133). -/
def execActLevelTaken (s : State) : Host.Outcome State Fault Refusal :=
  occurs (s.working && s.am.act.due s.params.debounce) State.takeActLevel s

/-- COUNT_DEADLINE (R142). -/
def execCountDeadline (s : State) : Host.Outcome State Fault Refusal := occurs (s.working && s.countDue) State.takeCountDeadline s

/-- RQ_RISE (R127). -/
def execRqRise (pri : BitVec 2) (s : State) : Host.Outcome State Fault Refusal :=
  occurs (s.working && s.gd.rq.due s.params.debounce && !s.gd.rq.level) (State.takeRqRise pri) s

/-- RQ_FALL (R128). -/
def execRqFall (s : State) : Host.Outcome State Fault Refusal :=
  occurs (s.working && s.gd.rq.due s.params.debounce && s.gd.rq.level) State.takeRqFall s

/-- FAST_END (R128). -/
def execFastEnd (s : State) : Host.Outcome State Fault Refusal := occurs (s.working && s.fastEndDue) State.takeFastEnd s

end Sys2Proof.Machine
end

