-- ==== Sys2Proof/Machine/LineClear.lean ====
section
/-! DEFINITION. The commands of dominant stretches: LINE_CLEAR_DETECTED, LINE_STUCK_DETECTED, DOMINANT_STRETCH_END, CLEAR_DRIVE_END
(R162–R166). -/

namespace Sys2Proof.Machine

/-- The LINE_STUCK condition becomes present, and LINE_STUCK is raised (R166, R181). -/
def State.takeLineStuck (s : State) : State :=
  ((s.onAu fun u => { u with stuckCondition := true }).raiseAlarm .lineStuck).settle

/-- A stretch ends. After a detection the receiver goes to WAIT IDLE, and the LINE_STUCK condition becomes absent (R162, R166, R181). Before
one it was a level of the frame in progress, or of no frame (R150, R162). -/
def State.endStretch (s : State) : State :=
  if s.lc.clearDetected then
    (s.onLc fun l => { l with receiver := .waitIdle 0, latch := none, stretch := none, clearDetected := false }).onAu
      fun u => { u with stuckCondition := false }
  else s.onLc fun l => { l with receiver := l.receiver.follow .fall, stretch := none }

/-- The clear drive ends, and LC releases the line (R163). -/
def State.endClearDrive (s : State) : State := s.onLc fun l => { l with clearDrive := none, driver := .released }

/-- LINE_CLEAR_DETECTED (R162, R164). -/
def execLineClearDetected (s : State) : Host.Outcome State Fault Refusal :=
  occurs (s.working && s.clearDue) (fun s => s.lineClear.settle) s

/-- LINE_STUCK_DETECTED (R166). -/
def execLineStuckDetected (s : State) : Host.Outcome State Fault Refusal := occurs (s.working && s.stuckDue) State.takeLineStuck s

/-- DOMINANT_STRETCH_END (R162, R166). A stretch that has reached 64 bit times is detected before it ends. -/
def execDominantStretchEnd (s : State) : Host.Outcome State Fault Refusal :=
  occurs (s.working && s.lc.clearDrive.isNone && !s.clearDue) State.endStretch s

/-- CLEAR_DRIVE_END (R163). -/
def execClearDriveEnd (s : State) : Host.Outcome State Fault Refusal := occurs (s.working && s.driveEndDue) State.endClearDrive s

end Sys2Proof.Machine
end

