-- ==== Sys2Proof/Machine/Port.lean ====
section
/-! DEFINITION. The radio port: CSN_FALL, TRANSACTION_END, and what every CSn rise does before its record (R186, R192–R194). -/

namespace Sys2Proof.Machine

/-- The head notice as a transaction shifts it out: an ALERT is composed with the flags and the hold flag then standing (R186, R192). -/
def State.composeHead (s : State) : Notice → Notice
  | .alert _ => .alert (some (s.au.flags, s.au.hold))
  | n => n

/-- CSn falls: the head notice is fixed; composing an ALERT clears the new-raise mark (R186, R192). -/
def State.fallCsn (s : State) : State :=
  match s.rp.queue with
  | [] => s.onRp fun r => { r with transaction := some { out := none } }
  | n :: rest =>
    let fixed := s.onRp fun r => { r with queue := s.composeHead n :: rest, transaction := some { out := some (s.composeHead n) } }
    match n with
    | .alert _ => fixed.onAu fun u => { u with newRaise := false }
    | _ => fixed

/-- The notice fixed at the CSn fall has been shifted out in full: its length plus 2 whole bytes (R194). -/
def shiftedInFull (t : Transaction) (whole : Nat) : Bool :=
  match t.out with
  | some n => n.length + 2 ≤ whole
  | none => false

/-- The removal step of a CSn rise (R193, R194). A rise that finds CSn high stands for a whole transaction, its fall first
(DESIGN CHOICE, notes/assumptions/13). -/
def State.riseCsn (whole : Nat) (s : State) : State :=
  let fallen := if s.rp.transaction.isSome then s else s.fallCsn
  let removed := if fallen.rp.transaction.any (fun t => shiftedInFull t whole) then fallen.removeHead else fallen
  removed.onRp fun r => { r with transaction := none }

/-- A CSn rise with a record: the removal step, then the record, which is passed over when no entry is free (R193). -/
def State.takeRecord (whole : Nat) (handle : State → State) (s : State) : State :=
  let removed := s.riseCsn whole
  (if 1 ≤ removed.freeNotices then handle removed else removed).settle

/-- A REPLY (R193, R203). -/
def State.reply (s : State) (kind : Byte) (outcome : ReplyOutcome) (reason : Reason) (tag : Tag) (clamped : List Nat) : State :=
  s.pushNotice (.reply kind outcome reason tag clamped)

/-- A REPLY that refuses a record; nothing else changes (R197). -/
def State.refuse (s : State) (kind : Byte) (reason : Reason) (tag : Tag) : State := s.reply kind .refused reason tag []

/-- A REPLY that accepts a record, with the numbers of its clamped fields (R16, R198). -/
def State.accept (s : State) (kind : Byte) (clamped : List Nat) : State :=
  s.reply kind (if clamped = [] then .accepted else .clamped) .none 0 clamped

/-- The refusal of a record that is taken in JOINING and RUNNING alone: HALTED, then NOT_SET (R197). -/
def State.notTaken (s : State) : Option Reason :=
  match s.part with
  | .halted => some .halted
  | .unset => some .notSet
  | .joining | .running => none

/-- A record that is taken in JOINING and RUNNING alone (R197). -/
def State.whenJoined (s : State) (kind : Byte) (tag : Tag) (handle : State → State) : State :=
  match s.notTaken with
  | some reason => s.refuse kind reason tag
  | none => handle s

/-- The REPLY to a transaction with no whole record, when one is given (R193). -/
def State.answerPort (r : PortRecord) (s : State) : State :=
  match r with
  | .noRecord => s
  | .unknownKind kind => s.refuse kind .unknownKind 0
  | .badLength kind => s.refuse kind .badLength 0

/-- CSN_FALL (R186, R192). -/
def execCsnFall (s : State) : Host.Outcome State Fault Refusal :=
  occurs (!s.pins.rstLow && s.rp.transaction.isNone) State.fallCsn s

/-- TRANSACTION_END (R193). -/
def execTransactionEnd (whole : Nat) (r : PortRecord) (s : State) : Host.Outcome State Fault Refusal :=
  occurs (!s.pins.rstLow) (State.takeRecord whole (State.answerPort r)) s

end Sys2Proof.Machine
end

