-- ==== Sys2Proof/Machine/Receive.lean ====
section
/-! DEFINITION. The commands of the receiver: BEACON_RECEIVED, CLAIM_RECEIVED, WITHDRAW_RECEIVED, OWN_NUMBER_FRAME, BAD_FRAME (R40, R50,
R67, R69, R159–R161). -/

namespace Sys2Proof.Machine

/-- The receiver is taking a frame that the own station does not send, on a line that no line clear holds dominant, detected or due to be
(R150, R159, R162). -/
def State.receiving (s : State) : Bool :=
  s.working && s.lc.receiver == .frame && s.lc.contending.isNone && s.lc.inTransmission.isNone && !s.lc.clearDetected
    && !s.clearDue && s.lc.clearDrive.isNone

/-- The receiver goes to WAIT IDLE after a good frame, with the 7 bits of the end mark counted. They were recessive, so that every stretch
has ended. The latch goes with its frame (R150, R159, R162). -/
def State.endReception (s : State) : State := s.onLc fun l => { l with receiver := .waitIdle 7, latch := none, stretch := none }

/-- The level of CXL lets a bad frame be judged for this cause (R159). A dominant level in the end mark and a stuff error by dominant levels
are judged when the dominant level ends, one by recessive levels at the sixth; a CRC failure is judged at once, at a last CRC bit that may
be dominant, in a run of five bits at the most (R148; notes/assumptions/44). -/
def State.mayJudge (s : State) : BadFrameCause → Bool
  | .stuffRecessive | .stuffDominant | .endMark => s.lc.stretch.isNone
  | .crc => s.lc.stretch.all fun start => 0 ≤ s.distance (later start Config.runStretch)

/-- The receiver goes to WAIT IDLE after a bad frame, with none of its bits counted (notes/assumptions/23). The latch goes with its frame;
the last bit of a wrong CRC may be dominant, and then its stretch goes on (R150, R159, R162). -/
def State.dropReception (s : State) : State := s.onLc fun l => { l with receiver := .waitIdle 0, latch := none }

/-- One good frame is counted; the 64th of a run clears the bad count and LINE_NOISY (R160, R184). -/
def State.countGood (s : State) : State :=
  if s.lc.goodRun + 1 < 64 then s.onLc fun l => { l with goodRun := l.goodRun + 1 }
  else (s.onLc fun l => { l with goodRun := 0, badCount := 0 }).clearAlarms (Alarm.bit .lineNoisy)

/-- One bad frame is counted; a bad count that reaches or stands at 8 raises LINE_NOISY (R159, R160). -/
def State.countBad (s : State) : State :=
  let counted := (s.onLc fun l => { l with goodRun := 0, badCount := min 8 (l.badCount + 1) }).onAu
    fun u => { u with rxErrors := saturatingSucc u.rxErrors }
  if counted.lc.badCount = 8 then counted.raiseAlarm .lineNoisy else counted

/-- A frame with the own station number: it is discarded, counted as a clash, and counted as good (R160, R161). -/
def State.takeOwnNumber (s : State) : State := (s.countClash.countGood.endReception).settle

/-- A complete frame of another station: its handling, then the good count (R159); one that carries the own number is a clash (R161). -/
def State.takeFrame (s : State) (st : Station) (handle : Time → State) : State :=
  if st = s.station then s.takeOwnNumber
  else match s.lc.latch with
    | none => s
    | some latch => ((handle latch).countGood.endReception).settle

/-- A CLAIM or SHORT CLAIM: PR takes it, then CT (R40, R67). -/
def State.takeClaimReceived (st : Station) (b : ClaimBody) (s : State) : State :=
  s.takeFrame st fun latch => (s.hear st latch s.timeoutEpoch).takeClaimFrame st b latch

/-- A WITHDRAW: PR takes it, then CT removes the entry of its station and tag (R40, R69). -/
def State.takeWithdrawReceived (st : Station) (tag : Tag) (s : State) : State :=
  s.takeFrame st fun latch => (s.hear st latch s.timeoutEpoch).removeClaim st tag

/-- BEACON_RECEIVED (R50). -/
def execBeaconReceived (st : Station) (b : BeaconBody) (s : State) : Host.Outcome State Fault Refusal :=
  occurs s.receiving (fun s => s.takeFrame st (s.takeBeacon st b)) s

/-- CLAIM_RECEIVED (R67). A SHORT CLAIM is taken as a CLAIM is; its key kind is stored nowhere (R66). -/
def execClaimReceived (st : Station) (_short : Bool) (b : ClaimBody) (s : State) : Host.Outcome State Fault Refusal :=
  occurs s.receiving (State.takeClaimReceived st b) s

/-- WITHDRAW_RECEIVED (R69). -/
def execWithdrawReceived (st : Station) (tag : Tag) (s : State) : Host.Outcome State Fault Refusal :=
  occurs s.receiving (State.takeWithdrawReceived st tag) s

/-- OWN_NUMBER_FRAME (R161). -/
def execOwnNumberFrame (s : State) : Host.Outcome State Fault Refusal := occurs s.receiving State.takeOwnNumber s

/-- BAD_FRAME (R159). -/
def execBadFrame (s : State) (line : List LineEvent := []) (cause : BadFrameCause := .crc) : Host.Outcome State Fault Refusal :=
  occurs (s.receiving && s.mayFollow line && (s.followLine line).mayJudge cause) (fun s => (s.followLine line).countBad.dropReception.settle) s

end Sys2Proof.Machine
end

