-- ==== Sys2Proof/Machine/Records.lean ====
section
/-! DEFINITION. The other records: SETUP, PROFILE_SELECT, FAST_SPAN, CLEAR_LINE, CLEAR_ACK, ALARM_CLEAR, METER_READ, STATUS_READ, TIME_READ
(R4, R130, R143, R163, R165, R172, R182, R198, R200). -/

namespace Sys2Proof.Machine

/-- The kind byte of SETUP (R202). -/
def kindSetup : Byte := 1
/-- The kind byte of PROFILE_SELECT (R202). -/
def kindProfileSelect : Byte := 4
/-- The kind byte of FAST_SPAN (R202). -/
def kindFastSpan : Byte := 5
/-- The kind byte of CLEAR_LINE (R202). -/
def kindClearLine : Byte := 6
/-- The kind byte of CLEAR_ACK (R202). -/
def kindClearAck : Byte := 7
/-- The kind byte of ALARM_CLEAR (R202). -/
def kindAlarmClear : Byte := 8
/-- The kind byte of METER_READ (R202). -/
def kindMeterRead : Byte := 9
/-- The kind byte of STATUS_READ (R202). -/
def kindStatusRead : Byte := 10
/-- The kind byte of TIME_READ (R202). -/
def kindTimeRead : Byte := 11

/-! ## SETUP -/

/-- TB at SETUP acceptance: E, and the epoch timer started at the record time (R6, R7). -/
def Timebase.setUp (t : Timebase) (epochLength : Nat) : Timebase :=
  { t with
    epochLength := epochLength
    timerRunning := true
    epochCount := 0
    lastBoundary := some t.localTime
    nextBoundary := some (later t.localTime epochLength) }

/-- AM at SETUP acceptance (R135). -/
def Meter.setUp (m : Meter) (act : Bool) (share : Nat) : Meter :=
  { m with act := Filter.startAt act, runningEpoch := 0, usage := 0, shareTarget := some share, stagedTarget := none }

/-- GD at SETUP acceptance: the RQ filter starts, and a pin already high makes the record SPENT (R122, R124, R131). -/
def GrantDriver.setUp (g : GrantDriver) (rq : Bool) (fast : FastFields) : GrantDriver :=
  { g with
    rq := Filter.startAt rq
    fast := if rq then .spent else .idle
    fastSpan := some fast.span
    fastPower := some fast.power }

/-- The part at SETUP acceptance, with the ACT and RQ pins at these levels (R198). -/
def State.acceptSetup (s : State) (act rq : Bool) (f : SetupFields) : State :=
  let pinned : State :=
    { s.onPins (fun p => { p with act := act, rq := rq }) with
      params := { lead := f.lead, debounce := f.debounce, grace := f.grace } }
  let timed := pinned.onTb fun t => t.setUp f.epochLength
  let profiled := timed.onPs fun _ =>
    { profileA := some f.profileA, profileB := some f.profileB, inForce := some f.initial, pending := none }
  let masked := (profiled.onAu fun u => { u with alertMask := f.alertMask, holdMask := f.holdMask }).workOutHold
  let metered := masked.onAm fun m => m.setUp act masked.profile.share
  let granting := metered.onGd fun g => g.setUp rq f.fast
  granting.enterJoining

/-- The handling of a SETUP (R197, R198). -/
def State.handleSetup (act rq : Bool) (r : SetupRecord) (s : State) : State :=
  match s.part with
  | .halted => s.refuse kindSetup .halted 0
  | .joining | .running => s.refuse kindSetup .alreadySet 0
  | .unset => (s.accept kindSetup (takeSetup r).clamped).acceptSetup act rq (takeSetup r).value

/-! ## PROFILE_SELECT and FAST_SPAN -/

/-- The pending profile after a select: absent when the profile in force is named, the other profile otherwise (R172). -/
def ProfileStore.select (p : ProfileStore) (named : ProfileName) : ProfileStore :=
  { p with pending := if p.inForce = some named then none else some named }

/-- The handling of a PROFILE_SELECT (R172). -/
def State.handleProfileSelect (code : Byte) (s : State) : State :=
  s.whenJoined kindProfileSelect 0 fun s =>
    (s.accept kindProfileSelect (takeProfileCode code).clamped).onPs fun p => p.select (takeProfileCode code).value

/-- The handling of a FAST_SPAN (R130). -/
def State.handleFastSpan (r : FastSpanRecord) (s : State) : State :=
  s.whenJoined kindFastSpan 0 fun s =>
    let fast := (takeFastSpan r).value
    if spanTaken fast.span.low fast.span.high then
      (s.accept kindFastSpan (takeFastSpan r).clamped).onGd
        fun g => { g with fastSpan := some fast.span, fastPower := some fast.power }
    else s.refuse kindFastSpan .badSpan 0

/-! ## CLEAR_LINE, CLEAR_ACK and ALARM_CLEAR -/

/-- The clear drive: an own frame is cut and discarded, the line is driven dominant until 48 µs from now, and its stretch begins now, or
goes on when the line was already dominant (R156, R163). A falling edge at line idle is a start mark, and a dominant bit in WAIT IDLE sets the
count back to 0 (R150; notes/assumptions/16). -/
def LineController.startClear (l : LineController) (now : Time) : LineController :=
  { l with
    driver := .dominant
    receiver := if l.receiver = .idle then .frame else l.receiver.follow .fall
    latch := if l.receiver = .idle then some now else l.latch
    queue := l.queue.filter (fun f => some f.ref != l.contending.map (·.ref))
    contending := none
    inTransmission := none
    stretch := some (l.stretch.getD now)
    clearDrive := some (later now Config.clearDriveLength) }

/-- The handling of a CLEAR_LINE (R163). -/
def State.handleClearLine (s : State) : State :=
  s.whenJoined kindClearLine 0 fun s => (s.accept kindClearLine []).onLc fun l => l.startClear s.now

/-- The handling of a CLEAR_ACK (R165, R184, R197). -/
def State.handleClearAck (s : State) : State :=
  if s.halted then s.refuse kindClearAck .halted 0
  else
    let accepted := s.accept kindClearAck []
    if s.lc.ack = .noClear then accepted
    else (accepted.onLc fun l => { l with ack := .noClear }).clearAlarms (Alarm.bit .clearUnacked)

/-- The flags an ALARM_CLEAR clears: those named, but CLEAR_UNACKED and a flag whose condition is present (R182). -/
def AlarmUnit.clearable (u : AlarmUnit) (named : FlagSet) : FlagSet :=
  named &&& ~~~(Alarm.bit .clearUnacked) &&& (if u.suspectCondition then ~~~(Alarm.bit .clockSuspect) else ~~~0)
    &&& (if u.stuckCondition then ~~~(Alarm.bit .lineStuck) else ~~~0)

/-- The handling of an ALARM_CLEAR (R182). -/
def State.handleAlarmClear (flags : BitVec 16) (s : State) : State :=
  if s.halted then s.refuse kindAlarmClear .halted 0
  else (s.accept kindAlarmClear []).clearAlarms (s.au.clearable (flagSetOf flags))

/-! ## The reads -/

/-- A METER_REPORT of the present instant (R144). -/
def State.meterReport (s : State) : Notice := .meterReport s.am.ring s.am.usage s.am.credit s.pe.rankingCredit s.au.overruns

/-- The handling of a METER_READ (R143). -/
def State.handleMeterRead (s : State) : State :=
  s.whenJoined kindMeterRead 0 fun s => (s.accept kindMeterRead []).offerNotice s.meterReport

/-- A peer record as STATUS_REPORT gives it (R200). -/
def PeerRecord.status (r : PeerRecord) : PeerStatus :=
  { station := r.station, state := r.state, credit := r.credit, hold := r.senderHold, profile := r.senderProfile, jumps := r.jumps }

/-- A STATUS_REPORT of the present instant (R200). -/
def State.statusReport (s : State) : StatusReport :=
  { part := s.part
    hold := s.au.hold
    station := s.station
    fallback := s.gd.fallback
    flags := s.au.flags
    rxErrors := s.au.rxErrors
    clashes := s.au.clashes
    lateOverlaps := s.au.lateOverlaps
    overruns := s.au.overruns
    noticeLosses := s.au.noticeLosses
    inForce := s.ps.inForce
    pendingProfile := s.ps.pending
    monitor := s.tb.monitor
    ack := s.lc.ack
    peers := s.pr.records.map PeerRecord.status
    free := s.free }

/-- The MODEL's own count of reports goes on, so that the next report has free values of its own (notes/assumptions/14). -/
def State.nextFree (s : State) : State := { s with free := s.free + 1 }

/-- The handling of a STATUS_READ, served in every state (R200). -/
def State.handleStatusRead (s : State) : State :=
  ((s.accept kindStatusRead []).offerNotice (.statusReport s.statusReport)).nextFree

/-- A TIME_REPORT of the present instant (R4). -/
def State.timeReport (s : State) : Notice :=
  .timeReport s.now s.tb.epochCount s.tb.lastBoundary s.tb.epochLength s.tb.monitor s.free

/-- The handling of a TIME_READ (R4). -/
def State.handleTimeRead (s : State) : State :=
  if s.halted then s.refuse kindTimeRead .halted 0
  else ((s.accept kindTimeRead []).offerNotice s.timeReport).nextFree

/-! ## The meanings -/

/-- SETUP (R198). -/
def execSetup (whole : Nat) (act rq : Bool) (r : SetupRecord) (s : State) : Host.Outcome State Fault Refusal :=
  occurs (!s.pins.rstLow) (State.takeRecord whole (State.handleSetup act rq r)) s

/-- PROFILE_SELECT (R172). -/
def execProfileSelect (whole : Nat) (code : Byte) (s : State) : Host.Outcome State Fault Refusal :=
  occurs (!s.pins.rstLow) (State.takeRecord whole (State.handleProfileSelect code)) s

/-- FAST_SPAN (R130). -/
def execFastSpan (whole : Nat) (r : FastSpanRecord) (s : State) : Host.Outcome State Fault Refusal :=
  occurs (!s.pins.rstLow) (State.takeRecord whole (State.handleFastSpan r)) s

/-- CLEAR_LINE (R163). -/
def execClearLine (whole : Nat) (s : State) : Host.Outcome State Fault Refusal :=
  occurs (!s.pins.rstLow) (State.takeRecord whole State.handleClearLine) s

/-- CLEAR_ACK (R165). -/
def execClearAck (whole : Nat) (s : State) : Host.Outcome State Fault Refusal :=
  occurs (!s.pins.rstLow) (State.takeRecord whole State.handleClearAck) s

/-- ALARM_CLEAR (R182). -/
def execAlarmClear (whole : Nat) (flags : BitVec 16) (s : State) : Host.Outcome State Fault Refusal :=
  occurs (!s.pins.rstLow) (State.takeRecord whole (State.handleAlarmClear flags)) s

/-- METER_READ (R143). -/
def execMeterRead (whole : Nat) (s : State) : Host.Outcome State Fault Refusal :=
  occurs (!s.pins.rstLow) (State.takeRecord whole State.handleMeterRead) s

/-- STATUS_READ (R200). -/
def execStatusRead (whole : Nat) (s : State) : Host.Outcome State Fault Refusal :=
  occurs (!s.pins.rstLow) (State.takeRecord whole State.handleStatusRead) s

/-- TIME_READ (R4). -/
def execTimeRead (whole : Nat) (s : State) : Host.Outcome State Fault Refusal :=
  occurs (!s.pins.rstLow) (State.takeRecord whole State.handleTimeRead) s

end Sys2Proof.Machine
end

