-- ==== Sys2Proof/Machine/Requests.lean ====
section
/-! DEFINITION. The records that act on the request book: SUBMIT and CANCEL (R14–R19, R29–R33). -/

namespace Sys2Proof.Machine

/-- The kind byte of SUBMIT (R202). -/
def kindSubmit : Byte := 2
/-- The kind byte of CANCEL (R202). -/
def kindCancel : Byte := 3

/-! ## SUBMIT -/

/-- The critical load of a request (R17). -/
def Request.criticalLoad (q : Request) (epochLength : Nat) : Nat :=
  q.claimWindow * (match q.period with
    | some p => ceilDiv epochLength p
    | none => 1)

/-- The critical loads of the CRITICAL entries of the book in WAITING, COMMITTED and ACTIVE (R17). -/
def State.criticalLoads (s : State) : Nat :=
  ((s.book.filter (fun e => e.standing && e.effClass = .critical)).map (fun e => e.request.criticalLoad s.tb.epochLength)).sum

/-- A CRITICAL request is demoted: the load counted is above the critical allowance of the profile in force (R17). -/
def State.demotes (s : State) (q : Request) : Bool :=
  q.cls = .critical && s.profile.allowance < q.criticalLoad s.tb.epochLength + s.criticalLoads

/-- The first check that refuses a SUBMIT taken in JOINING or RUNNING (R15, checks 3 to 8). -/
def State.submitRefusal (s : State) (q : Request) : Option Reason :=
  if s.lc.ack ≠ .noClear then some .clearPending
  else if Config.bookSize ≤ s.book.length then some .bookFull
  else if (s.findEntry q.tag).isSome then some .tagBusy
  else if 4000000 < q.startOffset then some .horizon
  else if !spanTaken q.low q.high then some .badSpan
  else if !q.periodTaken then some .badPeriod
  else none

/-- The entry of an admitted request (R19). -/
def State.newEntry (s : State) (q : Request) : Entry :=
  let ws := later s.now q.startOffset
  { request := q
    effClass := if s.demotes q then .stream else q.cls
    sequence := s.nextSequence
    index := 0
    windowStart := ws
    commitPoint := ws - BitVec.ofNat 32 s.params.lead
    state := .waiting
    announced := false
    lastAnnounced := none
    held := s.pe.joining == .joining && s.pr.firstFresh.isNone
    stage := .taken
    placement := none
    counters := ⟨0, 0, 0, 0, 0, 0⟩ }

/-- The outcome of an admitted SUBMIT (R16). -/
def State.admitOutcome (s : State) (q : Request) (clamped : List Nat) : ReplyOutcome :=
  if s.demotes q then .demoted else if clamped = [] then .accepted else .clamped

/-- An admission: the REPLY, the new entry, the ask for its claim, and a commit that falls due at once (R16, R19, R106). That the ask comes
before the commit is a DESIGN CHOICE (notes/assumptions/36). -/
def State.enterBook (s : State) (q : Request) (clamped : List Nat) : State :=
  (((s.reply kindSubmit (s.admitOutcome q clamped) .none q.tag clamped).onBook (fun b => b ++ [s.newEntry q])).askClaim
    q.tag).commitWhileDue q.tag

/-- The handling of a SUBMIT (R15). -/
def State.handleSubmit (r : SubmitRecord) (s : State) : State :=
  s.whenJoined kindSubmit r.tag fun s =>
    let taken := takeSubmit r
    match s.submitRefusal taken.value with
    | some reason => s.refuse kindSubmit reason r.tag
    | none => s.enterBook taken.value taken.clamped

/-! ## CANCEL -/

/-- An entry that has been cancelled and waits for its WITHDRAW (R30, R33). -/
def Entry.retire (e : Entry) : Entry := { e with state := .retiring, placement := none }

/-- A CANCEL ends a request: REQ_END CANCELLED, then a WITHDRAW when it was announced, or the entry leaves at once (R30, R31, R62). -/
def State.cancelEntry (s : State) (e : Entry) : State :=
  let ended := s.offerNotice (e.reqEnd .cancelled)
  if e.announced then (ended.updateEntry e.tag Entry.retire).askWithdraw e.tag
  else (ended.dequeue (.claim e.tag)).removeEntry e.tag

/-- The handling of a CANCEL (R29). -/
def State.handleCancel (tag : Tag) (s : State) : State :=
  s.whenJoined kindCancel tag fun s =>
    match s.findEntry tag with
    | none => s.refuse kindCancel .unknownTag tag
    | some e =>
      if e.standing then (s.reply kindCancel .accepted .none tag []).cancelEntry e else s.refuse kindCancel .unknownTag tag

/-- SUBMIT (R15). -/
def execSubmit (whole : Nat) (r : SubmitRecord) (s : State) : Host.Outcome State Fault Refusal :=
  occurs (!s.pins.rstLow) (State.takeRecord whole (State.handleSubmit r)) s

/-- CANCEL (R30). -/
def execCancel (whole : Nat) (tag : Tag) (s : State) : Host.Outcome State Fault Refusal :=
  occurs (!s.pins.rstLow) (State.takeRecord whole (State.handleCancel tag)) s

end Sys2Proof.Machine
end

