-- ==== Sys2Proof/Machine/Reset.lean ====
section
/-! DEFINITION. The commands of the reset pin: RESET_ASSERT, RESET_RELEASE, FB_CHANGE_DURING_RESET (R1, R13, R116, R169, R191). -/

namespace Sys2Proof.Machine

/-- RSTn is pulled low: local time is 0, GNT follows FB and the line driver is released (R1, R116, R169). The blocks take their
after-reset values at the release (notes/assumptions/9). -/
def State.assertReset (fb : Bool) (s : State) : State :=
  (((s.onPins fun p => { p with rstLow := true, fb := fb }).onTb fun t => { t with localTime := 0, prescale := 0 }).onGd
    fun g => { g with gnt := fb }).onLc
    fun l => { l with driver := .released, contending := none, inTransmission := none, clearDrive := none }

/-- RSTn is released: the straps are sampled and every block takes its after-reset values (R13, R116, R191). The commands that wait, the
free-value count and the levels of the other pins are no state of the blocks and stand. -/
def State.releaseReset (sa : Station) (s : State) : State :=
  { State.afterReset sa s.pins.fb with
    pins := { s.pins with rstLow := false, sa := sa }
    free := s.free
    pending := s.pending }

/-- GNT follows the FB pin while RSTn is low (R116). -/
def State.changeFb (fb : Bool) (s : State) : State :=
  (s.onPins fun p => { p with fb := fb }).onGd fun g => { g with gnt := fb }

/-- RESET_ASSERT (R116). -/
def execResetAssert (fb : Bool) (s : State) : Host.Outcome State Fault Refusal :=
  occurs (!s.pins.rstLow) (State.assertReset fb) s

/-- RESET_RELEASE (R13, R191). -/
def execResetRelease (sa : Station) (s : State) : Host.Outcome State Fault Refusal :=
  occurs s.pins.rstLow (State.releaseReset sa) s

/-- FB_CHANGE_DURING_RESET (R116). -/
def execFbChangeDuringReset (fb : Bool) (s : State) : Host.Outcome State Fault Refusal :=
  occurs s.pins.rstLow (State.changeFb fb) s

end Sys2Proof.Machine
end

