-- ==== Sys2Proof/Machine/Send.lean ====
section
/-! DEFINITION. The commands of the own side of the line: LINE_IDLE, START_MARK, ARBITRATION_LOST, OWN_START_MARK_REPORTED, FRAME_SENT,
READBACK_MISMATCH, DRIVE_FAULT (R45–R49, R63, R64, R150–R158). -/

namespace Sys2Proof.Machine

/-! ## Contention -/

/-- The line is not held dominant, and the own station sends nothing. -/
def State.lineFree (s : State) : Bool :=
  s.lc.stretch.isNone && s.lc.clearDrive.isNone && s.lc.contending.isNone && s.lc.inTransmission.isNone

/-- A start mark: the local time is latched, the receiver enters FRAME, and a dominant stretch begins (R5, R150, R162). -/
def LineController.beginFrame (l : LineController) (now : Time) : LineController :=
  { l with receiver := .frame, latch := some now, stretch := some now }

/-- LC contends with the head frame of its queue, whose key is fixed now; it drives the line in JOINING and RUNNING alone (R147, R151). -/
def State.contend (s : State) : State :=
  match s.headFrame with
  | some f =>
    if s.joined then s.onLc fun l => { l with contending := some ⟨f.ref, s.keyKind f.ref⟩, driver := .sending } else s
  | none => s

/-- A falling edge at line idle begins a frame, and the own head frame joins (R5, R150, R151). -/
def State.takeStartMark (s : State) : State :=
  (if s.lc.contending.isNone then s.contend else s).onLc fun l => l.beginFrame s.now

/-- LINE_IDLE comes about with these events of the line: the last of them is the end of the 11th consecutive recessive bit (R150), or the line
stands idle and they are recessive bits, which is a later occasion to contend (notes/assumptions/11). -/
def State.idleReached (s : State) (line : List LineEvent) : Bool :=
  bitsFit line && (s.lc.receiver.reachesIdle line || s.lc.receiver == .idle && line.all (· == .recessiveBit))

/-- Line idle is reached, and when its queue holds a frame LC sends a start mark at that instant (R150, R151). -/
def State.reachIdle (s : State) : State :=
  let idle := s.onLc fun l => { l with receiver := .idle }
  if s.joined && s.headFrame.isSome then idle.takeStartMark else idle

/-- LINE_IDLE (R150, R151). -/
def execLineIdle (s : State) (line : List LineEvent := []) : Host.Outcome State Fault Refusal :=
  occurs (s.working && s.idleReached line && s.lineFree) State.reachIdle s

/-- START_MARK (R150, R151). -/
def execStartMark (s : State) : Host.Outcome State Fault Refusal :=
  occurs (s.working && s.lc.receiver == .idle && s.lc.stretch.isNone && s.lc.clearDrive.isNone && s.lc.inTransmission.isNone)
    State.takeStartMark s

/-- ARBITRATION_LOST: the line is released, and the frame stays queued with its queue time (R152, R156). -/
def execArbitrationLost (s : State) : Host.Outcome State Fault Refusal :=
  occurs (s.working && s.lc.contending.isSome && s.lc.receiver == .frame) State.stopContending s

/-! ## The report of an own start mark -/

/-- The number of live claims, as a beacon carries it (R24, R47). -/
def State.liveClaims (s : State) : Nat := s.book.countP Entry.liveClaim

/-- The body of an own BEACON composed at a start mark with this latch (R47). -/
def State.composeBeacon (s : State) (latch : Time) : BeaconBody :=
  { timestamp := latch
    credit := BitVec.ofInt 11 s.am.credit
    epochUnits := BitVec.ofNat 7 (s.tb.epochLength / 1024)
    liveCount := BitVec.ofNat 5 s.liveClaims
    fresh := s.pr.freshOwed
    hold := s.au.hold
    profileB := s.ps.inForce == some .b }

/-- The remaining count an own CLAIM carries (R64). -/
def Entry.remainingCount (e : Entry) : Nat :=
  match e.request.period with
  | none => 1
  | some _ => if e.request.count = 0 then 0 else e.request.count - e.index.toNat

/-- The body of an own CLAIM composed at a start mark with this latch (R64). -/
def Entry.composeClaim (e : Entry) (latch : Time) : ClaimBody :=
  { tag := e.tag
    cls := BitVec.ofNat 3 e.effClass.number
    dir := e.request.dir.code
    power := BitVec.ofNat 2 e.request.power
    low := BitVec.ofNat 13 (e.request.low - spanLeast)
    high := BitVec.ofNat 13 (e.request.high - spanLeast)
    window := BitVec.ofNat 17 e.request.claimWindow
    anchorOffset := BitVec.ofInt 23 (signedDistance latch e.windowStart)
    period := BitVec.ofNat 20 (e.request.period.getD 0)
    remaining := BitVec.ofNat 16 e.remainingCount }

/-- The body of an own frame composed at its report, with the key kind that was sent (R154). -/
def State.composeBody (s : State) (c : Contender) (latch : Time) : Option FrameBody :=
  match c.ref with
  | .beacon => some (.beacon (s.composeBeacon latch))
  | .claim t => (s.findEntry t).map fun e => .claim (c.key == .shortClaim) (e.composeClaim latch)
  | .withdraw t => some (.withdraw t)

/-- The report of a BEACON: PE takes the credit it carries, and the first FRESH one of the JOINING releases the held claims and sets
the joining start and end (R48, R49, R95). -/
def State.reportBeacon (s : State) (latch : Time) (fresh : Bool) : State :=
  let ranked := s.onPe fun p => { p with rankingCredit := s.am.credit }
  if fresh && s.pe.joining == .joining && s.pr.firstFresh.isNone then
    ((ranked.onPr fun p => { p with firstFresh := some latch }).onPe
      fun p => { p with joiningStart := some latch, joiningEnd := some (later latch (2 * s.tb.epochLength)) }).releaseHeldClaims
  else ranked

/-- An entry whose CLAIM's start mark has been reported (R24). -/
def Entry.announcedAt (e : Entry) (epoch : BitVec 32) : Entry :=
  { e with announced := true, lastAnnounced := some epoch, stage := e.stage.raiseTo .announced }

/-- The start mark of a WITHDRAW lets the RETIRING entry of its tag leave (R33). -/
def State.endRetirement (s : State) (tag : Tag) : State :=
  match s.findEntry tag with
  | some e => if e.standing then s else s.removeEntry tag
  | none => s

/-- What the report of an own start mark hands to the block that owns the frame (R154). -/
def State.handReport (s : State) (latch : Time) : FrameBody → State
  | .beacon b => s.reportBeacon latch b.fresh
  | .claim _ c => s.updateEntry c.tag (fun e => e.announcedAt s.tb.epochCount)
  | .withdraw t => s.endRetirement t

/-- The contending frame has won its key: it leaves the queue and is in transmission, and its start mark is reported with the frame as
composed (R152, R154). -/
def State.reportStartMark (s : State) : State :=
  match s.lc.contending, s.lc.latch with
  | some c, some latch =>
    match s.lc.queue.find? (fun f => f.ref == c.ref), s.composeBody c latch with
    | some queued, some body =>
      let sent := (s.dequeue c.ref).onLc fun l =>
        { l with
          contending := none
          inTransmission := some { queued := queued, latch := latch, frame := ⟨s.station, body⟩ } }
      sent.handReport latch body
    | _, _ => s
  | _, _ => s

/-- OWN_START_MARK_REPORTED (R152, R154). -/
def execOwnStartMarkReported (s : State) : Host.Outcome State Fault Refusal :=
  occurs (s.working && s.lc.receiver == .frame) State.reportStartMark s

/-! ## The end of an own frame -/

/-- The frame carries FRESH. -/
def carriesFresh : FrameBody → Bool
  | .beacon b => b.fresh
  | .claim _ _ | .withdraw _ => false

/-- The own frame has been sent to its last end-mark bit; a FRESH beacon clears fresh owed (R46, R150, R154). -/
def State.takeFrameSent (s : State) : State :=
  match s.lc.inTransmission with
  | none => s
  | some f =>
    let sent := s.onLc fun l => { l with inTransmission := none, driver := .released, receiver := .waitIdle 7, latch := none, stretch := none }
    if carriesFresh f.frame.body then sent.onPr fun p => { p with freshOwed := false } else sent

/-- The own frame in transmission is abandoned: the line is released, the latch is discarded with the frame, and the frame returns to the
queue or is discarded (R5, R156). -/
def State.abandonFrame (s : State) : State :=
  match s.lc.inTransmission with
  | none => s
  | some f => (s.onLc fun l => { l with inTransmission := none, driver := .released, latch := none }).returnFrame f.queued

/-- The own frame stops at a drive fault, and LINE_DRIVE_FAULT is raised (R158). The bit was read back recessive, so that no stretch is in
progress, be it that its rising edge has come or that the line never fell (R158, R162). The spec does not say what the receiver does after
an own start mark at which the line never fell: it stays in FRAME with its latch, and a BAD_FRAME ends that frame, DESIGN CHOICE
(notes/assumptions/46). -/
def State.takeDriveFault (s : State) : State :=
  let stopped := if s.lc.contending.isSome then s.stopContending else s.abandonFrame
  ((stopped.onLc fun l => { l with stretch := none }).raiseAlarm .lineDriveFault).settle

/-- FRAME_SENT (R154). -/
def execFrameSent (s : State) : Host.Outcome State Fault Refusal := occurs s.working State.takeFrameSent s

/-- READBACK_MISMATCH (R157). -/
def execReadbackMismatch (s : State) : Host.Outcome State Fault Refusal := occurs s.working State.abandonFrame s

/-- DRIVE_FAULT (R158). -/
def execDriveFault (s : State) : Host.Outcome State Fault Refusal :=
  occurs (s.working && (s.lc.contending.isSome || s.lc.inTransmission.isSome)) State.takeDriveFault s

end Sys2Proof.Machine
end

