-- ==== Sys2Proof/Machine/Windows.lean ====
section
/-! DEFINITION. The timed commands of occurrences and of the joining state: COMMIT_POINT, PLACED_START, PLACED_END, JOINING_END (R25–R28,
R96, R98, R119). -/

namespace Sys2Proof.Machine

/-- The first entry in book order whose commit point has fallen due (R20, R107). -/
def State.nextCommit (s : State) : Option Entry := s.bookOrder.find? s.commitDue

/-- The first due commit point in book order is taken, with the immediate commits that follow it (R98, R107). -/
def State.takeCommitPoint (s : State) : State :=
  match s.nextCommit with
  | none => s
  | some e => (s.commitWhileDue e.tag).settle

/-- An entry whose window opens (R26). -/
def Entry.opened (e : Entry) : Entry := { e with state := .active, stage := e.stage.raiseTo .active }

/-- The placed start of an entry is taken when it has fallen due: its window opens (R26, R119). -/
def State.takePlacedStart (tag : Tag) (s : State) : State :=
  match s.findEntry tag with
  | none => s
  | some e => if s.startDue e then (s.updateEntry tag Entry.opened).settle else s

/-- The placed end of an entry is taken when it has fallen due: its window closes and the occurrence ends (R27, R28, R119). -/
def State.takePlacedEnd (tag : Tag) (s : State) : State :=
  match s.findEntry tag with
  | none => s
  | some e => if s.endDue e then (s.endOccurrence tag).settle else s

/-- The part enters RUNNING (R95, R96). -/
def State.endJoining (s : State) : State :=
  (s.onPe fun p => { p with joining := .running, joiningStart := none, joiningEnd := none }).settle

/-- COMMIT_POINT (R98). -/
def execCommitPoint (s : State) : Host.Outcome State Fault Refusal := occurs s.working State.takeCommitPoint s

/-- PLACED_START (R119). -/
def execPlacedStart (tag : Tag) (s : State) : Host.Outcome State Fault Refusal := occurs s.working (State.takePlacedStart tag) s

/-- PLACED_END (R27, R119). -/
def execPlacedEnd (tag : Tag) (s : State) : Host.Outcome State Fault Refusal := occurs s.working (State.takePlacedEnd tag) s

/-- JOINING_END (R96). -/
def execJoiningEnd (s : State) : Host.Outcome State Fault Refusal := occurs (s.working && s.joiningEndDue) State.endJoining s

end Sys2Proof.Machine
end

