-- ==== Sys2Proof/Machine/Dispatch.lean ====
section
/-! DEFINITION. The meaning of every command: one arm per constructor of `Instr`, in the order of the table. -/

namespace Sys2Proof.Machine

/-- The effect of a command on everything but the queue of commands. -/
def exec (i : Instr) (s : State) : Host.Outcome State Fault Refusal :=
  match i with
  | .resetAssert fb => Sys2Proof.Machine.execResetAssert fb s
  | .resetRelease sa => Sys2Proof.Machine.execResetRelease sa s
  | .microsecondAdvance rc act rq line => Sys2Proof.Machine.execMicrosecondAdvance rc act rq s line
  | .monitorWindowClose edges => Sys2Proof.Machine.execMonitorWindowClose edges s
  | .epochBoundary => Sys2Proof.Machine.execEpochBoundary s
  | .commitPoint => Sys2Proof.Machine.execCommitPoint s
  | .placedStart tag => Sys2Proof.Machine.execPlacedStart tag s
  | .placedEnd tag => Sys2Proof.Machine.execPlacedEnd tag s
  | .actLevelTaken => Sys2Proof.Machine.execActLevelTaken s
  | .countDeadline => Sys2Proof.Machine.execCountDeadline s
  | .rqRise pri => Sys2Proof.Machine.execRqRise pri s
  | .rqFall => Sys2Proof.Machine.execRqFall s
  | .fastEnd => Sys2Proof.Machine.execFastEnd s
  | .quietDeadline station => Sys2Proof.Machine.execQuietDeadline station s
  | .lostDeadline station => Sys2Proof.Machine.execLostDeadline station s
  | .leaseDeadline station tag => Sys2Proof.Machine.execLeaseDeadline station tag s
  | .expiryPoint station tag => Sys2Proof.Machine.execExpiryPoint station tag s
  | .joiningEnd => Sys2Proof.Machine.execJoiningEnd s
  | .acknowledgeDeadline => Sys2Proof.Machine.execAcknowledgeDeadline s
  | .lineIdle line => Sys2Proof.Machine.execLineIdle s line
  | .startMark => Sys2Proof.Machine.execStartMark s
  | .arbitrationLost => Sys2Proof.Machine.execArbitrationLost s
  | .ownStartMarkReported => Sys2Proof.Machine.execOwnStartMarkReported s
  | .frameSent => Sys2Proof.Machine.execFrameSent s
  | .readbackMismatch => Sys2Proof.Machine.execReadbackMismatch s
  | .driveFault => Sys2Proof.Machine.execDriveFault s
  | .beaconReceived station body => Sys2Proof.Machine.execBeaconReceived station body s
  | .claimReceived station short body => Sys2Proof.Machine.execClaimReceived station short body s
  | .withdrawReceived station tag => Sys2Proof.Machine.execWithdrawReceived station tag s
  | .ownNumberFrame => Sys2Proof.Machine.execOwnNumberFrame s
  | .badFrame line cause => Sys2Proof.Machine.execBadFrame s line cause
  | .lineClearDetected => Sys2Proof.Machine.execLineClearDetected s
  | .lineStuckDetected => Sys2Proof.Machine.execLineStuckDetected s
  | .dominantStretchEnd => Sys2Proof.Machine.execDominantStretchEnd s
  | .clearDriveEnd => Sys2Proof.Machine.execClearDriveEnd s
  | .csnFall => Sys2Proof.Machine.execCsnFall s
  | .transactionEnd whole record => Sys2Proof.Machine.execTransactionEnd whole record s
  | .setup whole act rq record => Sys2Proof.Machine.execSetup whole act rq record s
  | .submit whole record => Sys2Proof.Machine.execSubmit whole record s
  | .cancel whole tag => Sys2Proof.Machine.execCancel whole tag s
  | .profileSelect whole code => Sys2Proof.Machine.execProfileSelect whole code s
  | .fastSpan whole record => Sys2Proof.Machine.execFastSpan whole record s
  | .clearLine whole => Sys2Proof.Machine.execClearLine whole s
  | .clearAck whole => Sys2Proof.Machine.execClearAck whole s
  | .alarmClear whole flags => Sys2Proof.Machine.execAlarmClear whole flags s
  | .meterRead whole => Sys2Proof.Machine.execMeterRead whole s
  | .statusRead whole => Sys2Proof.Machine.execStatusRead whole s
  | .timeRead whole => Sys2Proof.Machine.execTimeRead whole s
  | .fbChangeDuringReset fb => Sys2Proof.Machine.execFbChangeDuringReset fb s

end Sys2Proof.Machine
end

