-- ==== Sys2Proof/Machine/Formats.lean ====
section
/-! DEFINITION. The bytes of notices and what the port shifts out (R192, R203). -/

namespace Sys2Proof.Machine

/-- A value of n bytes, most significant byte first (section 12.7). -/
def bytesOf : (n : Nat) → BitVec w → List Byte
  | 0, _ => []
  | n + 1, v => (v >>> (8 * n)).setWidth 8 :: bytesOf n v

/-- A number as n bytes. -/
def natBytes (n v : Nat) : List Byte := bytesOf n (BitVec.ofNat (8 * n) v)

/-- A signed number as n bytes, two's complement (section 12.7). -/
def intBytes (n : Nat) (v : Int) : List Byte := bytesOf n (BitVec.ofInt (8 * n) v)

/-- A flag or level as one byte: 1 for set or asserted. -/
def boolByte (b : Bool) : Byte := if b then 1 else 0

/-- A flag set as a notice sends it: the bit of value 2^(n − 1) for flag n, and five upper bits that are free values (R202, R203;
notes/assumptions/14). -/
def flagSetBytes (f : FlagSet) : List Byte := bytesOf 2 (Config.flagSetUpper f ++ f : BitVec 16)

/-- The kind byte of a notice (R203). -/
def Notice.kind : Notice → Byte
  | .reply .. => 1
  | .occurrence .. => 2
  | .occChange .. => 3
  | .reqEnd .. => 4
  | .alert .. => 5
  | .profileApplied .. => 6
  | .lineCleared .. => 7
  | .meterReport .. => 8
  | .statusReport .. => 9
  | .timeReport .. => 10

/-- Outcome codes of a REPLY (R203). -/
def ReplyOutcome.code : ReplyOutcome → Byte
  | .accepted => 0
  | .clamped => 1
  | .demoted => 2
  | .refused => 3

/-- Reason codes (R203). -/
def Reason.code : Reason → Byte
  | .none => 0
  | .notSet => 1
  | .alreadySet => 2
  | .badLength => 3
  | .unknownKind => 4
  | .bookFull => 5
  | .tagBusy => 6
  | .unknownTag => 7
  | .horizon => 8
  | .badPeriod => 9
  | .badSpan => 10
  | .clearPending => 11
  | .halted => 12

/-- Part state codes (R203). -/
def PartState.code : PartState → Byte
  | .unset => 0
  | .joining => 1
  | .running => 2
  | .halted => 3

/-- Profile codes (R203). -/
def profileCode : Option ProfileName → Byte
  | some .a => 0
  | some .b => 1
  | none => 255

/-- Outcome and skip reason of an OCCURRENCE (R203). -/
def CommitOutcome.codes : CommitOutcome → List Byte
  | .grant => [0, 0]
  | .clip => [1, 0]
  | .skipStrongerPeer => [2, 1]
  | .skipJoining => [2, 2]

/-- Change codes (R203). -/
def Change.code : Change → Byte
  | .cut => 0
  | .retract => 1

/-- REQ_END reason codes (R203). -/
def EndReason.code : EndReason → Byte
  | .done => 0
  | .cancelled => 1
  | .halted => 2

/-- Stage codes (R203). -/
def Stage.code : Stage → Byte
  | .taken => 0
  | .announced => 1
  | .committed => 2
  | .active => 3

/-- Monitor state codes (R203). -/
def MonitorState.code : MonitorState → Byte
  | .clockOk => 0
  | .clockSuspect => 1
  | .clockLost => 2

/-- Acknowledge state codes (R203). -/
def AckState.code : AckState → Byte
  | .noClear => 0
  | .awaiting _ => 1
  | .expired => 2

/-- Record state codes of a STATUS_REPORT (R203). -/
def Liveness.code : Liveness → Byte
  | .unheard => 0
  | .live => 1
  | .quiet => 2
  | .lost => 3

/-- Origin codes (R203). -/
def ClearOrigin.code : ClearOrigin → Byte
  | .self => 0
  | .line => 1

/-- The sender status byte: bit 0 HOLD known, bit 1 HOLD, bit 2 profile known, bit 3 profile B (R203). Bit 1 without bit 0, bit 3 without
bit 2, and the upper four bits are not stated: free values of the report (notes/assumptions/14). -/
def PeerStatus.senderByte (p : PeerStatus) (free : Nat) : Byte :=
  let hold := p.hold.getD (Config.unknownHoldBit free p.station)
  let profileB := (p.profile.map (· == ProfileName.b)).getD (Config.unknownProfileBit free p.station)
  Config.senderStatusUpper free p.station ++
    (BitVec.ofBool profileB ++ BitVec.ofBool p.profile.isSome ++ BitVec.ofBool hold ++ BitVec.ofBool p.hold.isSome : BitVec 4)

/-- The seven bytes of a peer entry of a STATUS_REPORT (R203). -/
def PeerStatus.bytes (p : PeerStatus) (free : Nat) : List Byte :=
  [p.station.setWidth 8, p.state.code] ++ intBytes 2 p.credit ++ [p.senderByte free] ++ bytesOf 2 p.jumps

/-- The body of a STATUS_REPORT (R203). -/
def StatusReport.bytes (r : StatusReport) : List Byte :=
  [r.part.code, boolByte r.hold, r.station.setWidth 8, boolByte r.fallback] ++ flagSetBytes r.flags
    ++ bytesOf 2 r.rxErrors ++ bytesOf 2 r.clashes ++ bytesOf 2 r.lateOverlaps ++ bytesOf 2 r.overruns ++ bytesOf 2 r.noticeLosses
    ++ [profileCode r.inForce, profileCode r.pendingProfile, r.monitor.code, r.ack.code]
    ++ r.peers.flatMap (fun p => p.bytes r.free)

/-- The six counters of a REQ_END (R203). -/
def Counters.bytes (c : Counters) : List Byte :=
  bytesOf 4 c.granted ++ bytesOf 4 c.clipped ++ bytesOf 4 c.skipped ++ bytesOf 4 c.retracted ++ bytesOf 4 c.cut
    ++ bytesOf 4 c.lateOverlaps

/-- The body of a notice (R203). An ALERT is always composed when it is shifted out. -/
def Notice.body : Notice → List Byte
  | .reply kind outcome reason tag clamped =>
    [kind, outcome.code, reason.code, tag] ++ natBytes 1 clamped.length ++ clamped.map (BitVec.ofNat 8)
  | .occurrence tag index outcome start length held =>
    [tag] ++ bytesOf 4 index ++ outcome.codes ++ bytesOf 4 start ++ natBytes 2 length ++ [boolByte held]
  | .occChange tag index change length => [tag] ++ bytesOf 4 index ++ [change.code] ++ natBytes 2 length
  | .reqEnd tag reason stage ended counters => [tag, reason.code, stage.code] ++ bytesOf 4 ended ++ counters.bytes
  | .alert composed => flagSetBytes (composed.getD (0, false)).1 ++ [boolByte (composed.getD (0, false)).2]
  | .profileApplied profile epoch boundary => [profileCode (some profile)] ++ bytesOf 4 epoch ++ bytesOf 4 boundary
  | .lineCleared origin detected => [origin.code] ++ bytesOf 4 detected
  | .meterReport ring usage credit ranking overruns =>
    ring.flatMap (natBytes 4) ++ natBytes 4 usage ++ intBytes 2 credit ++ intBytes 2 ranking ++ bytesOf 2 overruns
  | .statusReport r => r.bytes
  | .timeReport t epoch last epochLength monitor free =>
    bytesOf 4 t ++ bytesOf 4 epoch ++ bytesOf 4 (last.getD (Config.absentLastBoundary free)) ++ natBytes 4 epochLength
      ++ [monitor.code, boolByte last.isSome]

/-- A notice as the port shifts it out: kind byte, length byte, body (R192). -/
def Notice.bytes (n : Notice) : List Byte := n.kind :: BitVec.ofNat 8 n.length :: n.body

/-- The byte number k that a transaction shifts out on MISO; kind 0 and length 0 when no notice was fixed, and 0 after the last byte
(R192). -/
def Transaction.misoByte (t : Transaction) (k : Nat) : Byte :=
  match t.out with
  | some n => n.bytes.getD k 0
  | none => 0

/-- The bit number k that a transaction shifts out on MISO, bytes most significant bit first (R192). -/
def Transaction.misoBit (t : Transaction) (k : Nat) : Bool := (t.misoByte (k / 8)).getMsbD (k % 8)

/-- MISO after k falling SCLK edges of the transaction: its bit number k, and released, `none`, while CSn is high (R192). -/
def RadioPort.miso (r : RadioPort) (k : Nat) : Option Bool := r.transaction.map fun t => t.misoBit k

end Sys2Proof.Machine
end

