-- ==== Sys2Proof/Machine/LineCode.lean ====
section
/-! DEFINITION. The bits of line frames: key, body, CRC, stuffing and end mark (R147–R149, R201), what a receiver makes of a bit sequence
(R159), and the command it stands for. A bit is `true` for a 1, sent recessive, and `false` for a 0, sent dominant. -/

namespace Sys2Proof.Machine

/-- The bits of a field, most significant first (R149, R201). -/
def bitsOf (v : BitVec w) : List Bool := (List.range w).map fun i => v.getMsbD i

/-- The field read from bits, most significant first. -/
def fieldOf (w : Nat) (bits : List Bool) : BitVec w := bits.foldl (fun v b => v <<< 1 ||| (BitVec.ofBool b).setWidth w) 0

/-! ## Frames as unstuffed bits -/

/-- The key kind of a frame body (R149). -/
def keyKindOf : FrameBody → KeyKind
  | .beacon _ => .beacon
  | .claim true _ => .shortClaim
  | .claim false _ => .claim
  | .withdraw _ => .withdraw

/-- The arbitration key: kind × 8 + station number (R149). -/
def arbitrationKey (kind : KeyKind) (st : Station) : BitVec 5 := (BitVec.ofNat 2 kind.code ++ st : BitVec 5)

/-- The body bits of a BEACON, 58 (R201). -/
def beaconBits (b : BeaconBody) : List Bool :=
  bitsOf b.timestamp ++ bitsOf b.credit ++ bitsOf b.epochUnits ++ bitsOf b.liveCount ++ [b.fresh, b.hold, b.profileB]

/-- The body bits of a claim, 117 (R201). -/
def claimBits (c : ClaimBody) : List Bool :=
  bitsOf c.tag ++ bitsOf c.cls ++ bitsOf c.dir ++ bitsOf c.power ++ bitsOf c.low ++ bitsOf c.high ++ bitsOf c.window
    ++ bitsOf c.anchorOffset ++ bitsOf c.period ++ bitsOf c.remaining

/-- The body bits of a frame (R201). -/
def bodyBits : FrameBody → List Bool
  | .beacon b => beaconBits b
  | .claim _ c => claimBits c
  | .withdraw t => bitsOf t

/-- Key and body of a frame (R149). -/
def frameBits (f : Frame) : List Bool := bitsOf (arbitrationKey (keyKindOf f.body) f.station) ++ bodyBits f.body

/-- One bit taken into the CRC of x^16 + x^12 + x^5 + 1 (R149). -/
def crcStep (crc : BitVec 16) (b : Bool) : BitVec 16 :=
  if crc.msb != b then crc <<< 1 ^^^ 0x1021 else crc <<< 1

/-- The CRC of key and body, from all ones (R149). -/
def crcOf (bits : List Bool) : BitVec 16 := bits.foldl crcStep 0xFFFF

/-- The bits from the start mark to the last CRC bit, before stuffing (R149). -/
def unstuffedBits (f : Frame) : List Bool := false :: frameBits f ++ bitsOf (crcOf (frameBits f))

/-- Bits with a stuff bit after every run of five; `last` and `run` are the level and length of the run so far (R148). -/
def stuffFrom (last : Bool) (run : Nat) : List Bool → List Bool
  | [] => []
  | b :: rest =>
    let run' := if b = last then run + 1 else 1
    if run' = 5 then b :: (!b) :: stuffFrom (!b) 1 rest else b :: stuffFrom b run' rest

/-- The end mark: 7 recessive bits (R149). -/
def endMark : List Bool := List.replicate 7 true

/-- A frame as the line carries it. The line is recessive before the start mark (R148, R149). -/
def lineBits (f : Frame) : List Bool := stuffFrom true 0 (unstuffedBits f) ++ endMark

/-- The events that bits bring from a line at this level, recessive when `true`, as LC follows them (R147, R150, R162). -/
def lineEvents : Bool → List Bool → List LineEvent
  | _, [] => []
  | true, true :: rest => .recessiveBit :: lineEvents true rest
  | false, true :: rest => .rise :: .recessiveBit :: lineEvents true rest
  | true, false :: rest => .fall :: lineEvents false rest
  | false, false :: rest => lineEvents false rest

/-! ## Reception -/

/-- What a receiver has made of the line bits so far (R159): nothing yet, a bad frame, or what it was to take. -/
inductive Reception (α : Type) where
  | unfinished
  | bad (cause : BadFrameCause)
  | taken (a : α)
  deriving DecidableEq, Repr

/-- Reception goes on with what has been taken. -/
def Reception.andThen (r : Reception α) (f : α → Reception β) : Reception β :=
  match r with
  | .unfinished => .unfinished
  | .bad cause => .bad cause
  | .taken a => f a

/-- What has been taken, changed. -/
def Reception.map (f : α → β) (r : Reception α) : Reception β := r.andThen fun a => .taken (f a)

/-- What remains of a reception: the unstuffed bits taken, the rest of the line bits, and the level and length of the run so far. -/
structure Taking where
  bits : List Bool
  rest : List Bool
  last : Bool
  run : Nat
  deriving DecidableEq, Repr

/-- The stuff error of a run of this level (R148). -/
def stuffError (level : Bool) : BadFrameCause := if level then .stuffRecessive else .stuffDominant

/-- Takes n bits and removes the stuff bit before each that follows a run of five; a sixth equal level is a stuff error (R148, R159). -/
def unstuff : Nat → Bool → Nat → List Bool → Reception Taking
  | 0, last, run, rest => .taken { bits := [], rest := rest, last := last, run := run }
  | _ + 1, _, _, [] => .unfinished
  | n + 1, last, run, b :: rest =>
    if run = 5 then if b = last then .bad (stuffError last) else unstuff (n + 1) b 1 rest
    else (unstuff n b (if b = last then run + 1 else 1) rest).map fun t => { t with bits := b :: t.bits }

/-- Takes n recessive bits of the end mark (R149, R159). -/
def takeEndMark : Nat → List Bool → Reception Unit
  | 0, _ => .taken ()
  | _ + 1, [] => .unfinished
  | n + 1, b :: rest => if b then takeEndMark n rest else .bad .endMark

/-- Takes the stuff bit that falls due after the last CRC bit, if any, and the end mark (R148, R149). -/
def takeEnd (t : Taking) : Reception Unit :=
  if t.run = 5 then
    match t.rest with
    | [] => .unfinished
    | b :: rest => if b = t.last then .bad (stuffError b) else takeEndMark endMark.length rest
  else takeEndMark endMark.length t.rest

/-- The length of a body by the kind of its key (R149). -/
def bodyLength : KeyKind → Nat
  | .withdraw => 8
  | .shortClaim | .claim => 117
  | .beacon => 58

/-- The kind of a key (R149). -/
def kindOfCode (c : BitVec 2) : KeyKind := match c with
  | 0 => .withdraw
  | 1 => .shortClaim
  | 2 => .claim
  | 3 => .beacon

/-- The field of `w` bits that begins at bit `i` of a body. -/
def fieldAt (bits : List Bool) (i w : Nat) : BitVec w := fieldOf w ((bits.drop i).take w)

/-- The body read from its bits (R201). -/
def bodyOf (kind : KeyKind) (bits : List Bool) : FrameBody :=
  let claim : ClaimBody :=
    { tag := fieldAt bits 0 8, cls := fieldAt bits 8 3, dir := fieldAt bits 11 2, power := fieldAt bits 13 2,
      low := fieldAt bits 15 13, high := fieldAt bits 28 13, window := fieldAt bits 41 17, anchorOffset := fieldAt bits 58 23,
      period := fieldAt bits 81 20, remaining := fieldAt bits 101 16 }
  match kind with
  | .withdraw => .withdraw (fieldAt bits 0 8)
  | .shortClaim => .claim true claim
  | .claim => .claim false claim
  | .beacon => .beacon
      { timestamp := fieldAt bits 0 32, credit := fieldAt bits 32 11, epochUnits := fieldAt bits 43 7, liveCount := fieldAt bits 50 5,
        fresh := bits.getD 55 false, hold := bits.getD 56 false, profileB := bits.getD 57 false }

/-- What a receiver makes of the bits from a start mark on: the key, the body of its kind, the CRC, judged at its last bit, and the end
mark (R148, R149, R159). -/
def judgeBits : List Bool → Reception Frame
  | [] | true :: _ => .unfinished
  | false :: line =>
    (unstuff 5 false 1 line).andThen fun head =>
      let kind := kindOfCode (fieldAt head.bits 0 2)
      (unstuff (bodyLength kind + 16) head.last head.run head.rest).andThen fun tail =>
        let body := tail.bits.take (bodyLength kind)
        if tail.bits.drop (bodyLength kind) = bitsOf (crcOf (head.bits ++ body)) then
          (takeEnd tail).map fun _ => { station := fieldAt head.bits 2 3, body := bodyOf kind body }
        else .bad .crc

/-- The frame that a receiver takes from the bits from a start mark on: complete, with a good CRC and end mark (R159). -/
def receiveBits (line : List Bool) : Option Frame :=
  match judgeBits line with
  | .taken f => some f
  | .unfinished | .bad _ => none

/-- The command that a received frame stands for at the station with this number (R159). -/
def commandOfFrame (own : Station) (f : Frame) : Instr :=
  if f.station = own then .ownNumberFrame
  else match f.body with
    | .beacon b => .beaconReceived f.station b
    | .claim short c => .claimReceived f.station short c
    | .withdraw t => .withdrawReceived f.station t

/-- The command that the bits from a start mark on stand for, none while the frame has not ended (R159). A bad frame for a dominant level
comes about when that level ends, unless it becomes a line clear first (R162; `State.mayJudge`). LC has followed the events of the line
before it at the advances. -/
def commandOfLine (own : Station) (line : List Bool) : Option Instr :=
  match judgeBits line with
  | .unfinished => none
  | .bad cause => some (.badFrame [] cause)
  | .taken f => some (commandOfFrame own f)

end Sys2Proof.Machine
end

