-- ==== Sys2Proof/Safety.lean ====
section
/-! DEFINITION. The terms the statements use: the commands that are CSn rises, what follows every event at its instant, and the laws of the
part. -/

namespace Sys2Proof

/-! ## CSn rises -/

/-- The whole bytes of the transaction whose CSn rise a command is; none for a command that is no CSn rise (R193). -/
def Instr.risesWith : Instr → Option Nat
  | .transactionEnd w _ | .setup w _ _ _ | .submit w _ | .cancel w _ | .profileSelect w _ | .fastSpan w _ | .clearLine w | .clearAck w
  | .alarmClear w _ | .meterRead w | .statusRead w | .timeRead w => some w
  | .resetAssert _ | .resetRelease _ | .microsecondAdvance _ _ _ _ | .monitorWindowClose _ | .epochBoundary | .commitPoint
  | .placedStart _ | .placedEnd _ | .actLevelTaken | .countDeadline | .rqRise _ | .rqFall | .fastEnd | .quietDeadline _
  | .lostDeadline _ | .leaseDeadline _ _ | .expiryPoint _ _ | .joiningEnd | .acknowledgeDeadline | .lineIdle _ | .startMark
  | .arbitrationLost | .ownStartMarkReported | .frameSent | .readbackMismatch | .driveFault | .beaconReceived _ _
  | .claimReceived _ _ _ | .withdrawReceived _ _ | .ownNumberFrame | .badFrame _ _ | .lineClearDetected | .lineStuckDetected
  | .dominantStretchEnd | .clearDriveEnd | .csnFall | .fbChangeDuringReset _ => none

/-- The numbers of the fields whose value changed, of a list that says of each whether it did (R16, R130, R199). -/
def changedFields (fields : List (Nat × Bool)) : List Nat := (fields.filter (·.2)).map (·.1)

/-- The kind byte of the record a command carries (R202). -/
def Instr.recordKind (c : Instr) : Option Byte := (recordBytes c).bind List.head?

/-- The tag a REPLY to a record gives: that of a SUBMIT or CANCEL, 0 for the others (R203). -/
def Instr.replyTag : Instr → Tag
  | .submit _ r => r.tag
  | .cancel _ tag => tag
  | _ => 0

end Sys2Proof

namespace Sys2Proof.Machine

/-! ## What follows an event -/

/-- The contending frame, if any, is in the queue with the key it contends with (R153). -/
def State.contenderStands (s : State) : Prop :=
  ∀ c, s.lc.contending = some c → s.queueHolds c.ref = true ∧ s.keyKind c.ref = c.key

/-- An overrun stretch is in progress once GNT stands at the level of its law: filtered ACT is high and GNT deasserted (R140). -/
def State.inStretch (s : State) : Bool := s.am.act.running && s.am.act.level && !s.gntLevel

/-- A stretch that is being timed ends now, and its length is grace + 1 µs (R141, R142). -/
def State.endsCounted (s : State) : Prop :=
  s.am.overrun = .timing ∧ s.inStretch = false ∧ s.am.stretchStart = some (s.now - BitVec.ofNat 32 (s.params.grace + 1))

/-- `t` is `s` after what follows every event at its instant, and nothing else: GNT stands at the level of its law (R117), the overrun state
follows the stretch (R140, R141), a stretch that ends at grace + 1 µs is counted (R142), and a contending frame whose queued frame has left
or changed its kind is withdrawn (R153; for a WITHDRAW replaced or discarded the model's choice, notes/assumptions/43). A stretch can end
and the next begin in one instant, when its count sets the hold flag (R121). That the count comes after every notice of the event itself is
the model's choice (notes/assumptions/45). -/
structure State.Follows (s t : State) : Prop where
  pins : t.pins = s.pins
  station : t.station = s.station
  params : t.params = s.params
  halted : t.halted = s.halted
  tb : t.tb = s.tb
  book : t.book = s.book
  pr : t.pr = s.pr
  ct : t.ct = s.ct
  pe : t.pe = s.pe
  ps : t.ps = s.ps
  free : t.free = s.free
  pending : t.pending = s.pending
  gd : t.gd = { s.gd with gnt := t.gntLevel }
  noStretch : s.am.overrun = .clear → t.inStretch = false → t.am = s.am
  stretchBegins : s.am.overrun = .clear ∨ s.inStretch = false → t.inStretch = true → t.am =
    { s.am with overrun := .timing, stretchStart := some s.now, countDeadline := some (later s.now (s.params.grace + 1)) }
  stretchStands : s.am.overrun ≠ .clear → s.inStretch = true → t.am = s.am
  stretchEnds : s.am.overrun ≠ .clear → s.inStretch = false → t.inStretch = false → t.am =
    { s.am with overrun := .clear, stretchStart := none, countDeadline := none }
  counted : s.endsCounted → t.au = s.countOverrun.au ∧ t.rp = s.countOverrun.rp
  uncounted : ¬ s.endsCounted → t.au = s.au ∧ t.rp = s.rp
  lc : (s.contenderStands ∧ t.lc = s.lc) ∨ (¬ s.contenderStands ∧ t.lc = { s.lc with contending := none, driver := .released })

/-! ## Placement -/

/-- An activity of this length, started here, meets none of the guarded intervals. -/
def missesAll (guarded : List Interval) (start : Int) (length : Nat) : Prop :=
  ∀ g ∈ guarded, start + (length : Nat) ≤ g.1 ∨ g.2 ≤ start

/-! ## Laws of the part -/

/-- GNT follows FB while RSTn is low, and stands at the level of its law otherwise (R116, R117). -/
def State.GntLaw (s : State) : Prop := s.gd.gnt = if s.pins.rstLow then s.pins.fb else s.gntLevel

/-- The hold flag is set exactly while a flag of the hold mask is set or CLEAR_UNACKED is set (R187). -/
def State.HoldLaw (s : State) : Prop := s.au.hold = s.au.holdRule

/-- The book holds at most 16 entries, and no two carry one tag (R20). -/
def State.BookLaw (s : State) : Prop := s.book.length ≤ 16 ∧ (s.book.map Entry.tag).Nodup

/-- A notice is an ALERT. -/
def Notice.isAlert : Notice → Bool
  | .alert _ => true
  | .reply .. | .occurrence .. | .occChange .. | .reqEnd .. | .profileApplied .. | .lineCleared .. | .meterReport .. | .statusReport ..
  | .timeReport .. => false

/-- The notice queue holds at most 32 notices and at most one ALERT, one exactly in the ALERT state QUEUED, and ATTN follows the queue
(R185, R195, R196). -/
def State.NoticeLaw (s : State) : Prop :=
  s.rp.queue.length ≤ 32 ∧ s.rp.queue.countP Notice.isAlert = (if s.au.alert = .queued then 1 else 0) ∧
    s.rp.attn = !s.rp.queue.isEmpty

/-- The transmit queue holds at most 17 frames, never two frames for one tag, never more than one beacon, and no CLAIM but for a standing
entry (R155). -/
def State.QueueLaw (s : State) : Prop :=
  s.lc.queue.length ≤ 17 ∧ (s.lc.queue.filterMap (fun f => f.ref.tagOf)).Nodup ∧
    s.lc.queue.countP (fun f => f.ref == .beacon) ≤ 1 ∧
    ∀ f ∈ s.lc.queue, ∀ t, f.ref = .claim t → ∃ e ∈ s.book, e.tag = t ∧ e.standing = true

/-- One record stands for each other station number, and each field lies in its range; deadlines are held as the state asks (R39–R42). -/
def State.PeerLaw (s : State) : Prop :=
  s.pr.records.map (·.station) = allStations.filter (· ≠ s.station) ∧
    ∀ r ∈ s.pr.records, -3200 ≤ r.drift ∧ r.drift ≤ 3200 ∧ r.driftCount ≤ 8 ∧ -1000 ≤ r.credit ∧ r.credit ≤ 1000 ∧ r.mismatch ≤ 1 ∧
      (r.quietDeadline.isSome ↔ r.state = .live) ∧ (r.lostDeadline.isSome ↔ r.state = .live ∨ r.state = .quiet)

/-- CT holds no two entries with one station and tag, at most 16 of any station, none of the own station, and none of a station whose
record is UNHEARD or LOST (R66). -/
def State.ClaimLaw (s : State) : Prop :=
  (s.ct.map (fun c => (c.station, c.tag))).Nodup ∧ (∀ st, (s.claimsOf st).length ≤ 16) ∧
    ∀ c ∈ s.ct, c.station ≠ s.station ∧ ∃ r ∈ s.pr.records, r.station = c.station ∧ (r.state = .live ∨ r.state = .quiet)

/-- In UNSET and in HALTED the book and the transmit queue are empty, no epoch timer runs, and LC drives nothing (R7, R38, R167, R168). -/
def State.QuietLaw (s : State) : Prop :=
  s.joined = false →
    s.book = [] ∧ s.lc.queue = [] ∧ s.lc.contending = none ∧ s.lc.inTransmission = none ∧ s.lc.clearDrive = none ∧
      s.lc.driver = .released ∧ s.tb.timerRunning = false

/-- WAIT IDLE counts fewer than 11 recessive bits; at line idle no stretch is timed and none is driven; and while a line clear is detected or
driven, LC times its stretch and sends no frame (R150, R162, R163, R164). -/
def State.LineLaw (s : State) : Prop :=
  (∀ n, s.lc.receiver = .waitIdle n → n < 11) ∧ (s.lc.receiver = .idle → s.lc.stretch = none ∧ s.lc.clearDrive = none) ∧
    (s.lc.clearDetected = true ∨ s.lc.clearDrive.isSome = true →
      s.lc.stretch.isSome = true ∧ s.lc.contending = none ∧ s.lc.inTransmission = none)

/-- An optional share target lies within 0 … 1000 per mille. -/
def shareInRange (t : Option Nat) : Prop := ∀ x ∈ t, x ≤ 1000

/-- The usage of the running epoch counts no microsecond before its start, and its next boundary stands E after it (R7, R134). -/
def State.epochInHand (s : State) : Prop :=
  ∃ lb, s.tb.lastBoundary = some lb ∧ s.tb.nextBoundary = some (later lb s.tb.epochLength) ∧
    s.am.usage ≤ (s.now - lb).toNat ∧ (s.now - lb).toNat ≤ s.tb.epochLength

/-- The ring holds eight values within 0 … E, the running usage lies within 0 … E, and the credit lies within −1000 … +1000 (R134, R137).
The rest is what those rest on: the range of E, of the share targets, the ring before SETUP, and the epoch in hand. -/
def State.MeterLaw (s : State) : Prop :=
  s.am.ring.length = 8 ∧ (∀ u ∈ s.am.ring, u ≤ s.tb.epochLength) ∧ s.am.usage ≤ s.tb.epochLength ∧
    -1000 ≤ s.am.credit ∧ s.am.credit ≤ 1000 ∧ 4096 ≤ s.tb.epochLength ∧ s.tb.epochLength ≤ 65536 ∧
    shareInRange s.am.shareTarget ∧ shareInRange s.am.stagedTarget ∧ shareInRange (s.ps.profileA.map (·.share)) ∧
    shareInRange (s.ps.profileB.map (·.share)) ∧ (s.am.act.running = true → s.tb.timerRunning = true) ∧
    (s.joined = false → s.am.act.running = false ∧ s.tb.timerRunning = false) ∧ (s.part = .unset → ∀ u ∈ s.am.ring, u = 0) ∧
    (s.pins.rstLow = false → s.tb.timerRunning = true → s.epochInHand)

/-- The fields of a book entry that placement reads lie in their ranges (R14). -/
def Request.inRange (q : Request) : Prop :=
  10 ≤ q.duration ∧ q.duration ≤ 65535 ∧ q.slack ≤ 65535 ∧ ∀ m ∈ q.minDuration, 10 ≤ m ∧ m ≤ q.duration

/-- A placement lies inside the claim window of its occurrence, and is the full duration or at least min duration long (R104). -/
def Entry.holdsPlacement (e : Entry) (p : Placement) : Prop :=
  (p.start - e.windowStart).toNat + p.length ≤ e.request.claimWindow ∧ e.request.minDuration.getD e.request.duration ≤ p.length

/-- Every COMMITTED and ACTIVE entry holds a placement inside its claim window, and no other entry holds one (R25, R30, R104). -/
def State.PlacementLaw (s : State) : Prop :=
  ∀ e ∈ s.book, e.request.inRange ∧
    if e.state = .committed ∨ e.state = .active then ∃ p, e.placement = some p ∧ e.holdsPlacement p else e.placement = none

/-- While the RQ filter runs, the fast grant record is FAST IDLE exactly when the filtered level is low; while it is stopped, no fast
grant is in force (R125, R128). -/
def State.FastLaw (s : State) : Prop :=
  if s.gd.rq.running then (s.gd.fast = .idle ↔ s.gd.rq.level = false) else s.gd.fast = .idle

end Sys2Proof.Machine
end

