-- ==== Sys2Proof/Certificates/Slice0/Obligations.lean ====
section
/-! DEFINITION. The statements about the part, for the provers. Where an expected state `u` is given, `u.Follows t` says that the next
state `t` is `u` after what follows every event at its instant (Safety.lean). -/

open Sys2Proof Sys2Proof.Machine

/-! ## Steps -/

/-- A step takes the command at the front of the queue and runs it with the rest of the queue left waiting; on an empty queue the part
idles (the model's choice, notes/assumptions/7). -/
def Obligations.StepTakesFront : Prop :=
  (∀ (s : State) (c : Instr) (rest : List Instr), s.pending = c :: rest → step s = exec c { s with pending := rest }) ∧
    ∀ s : State, s.pending = [] → step s = .next s

/-- Every command answers a next state, whatever the state, and leaves the queue of commands alone. That a command out of season answers too,
with the state it was given, is the model's choice (notes/assumptions/3). -/
def Obligations.EveryCommandAnswers : Prop :=
  ∀ (c : Instr) (s : State), ∃ t, exec c s = .next t ∧ t.pending = s.pending

/-- Local time moves by one at MICROSECOND_ADVANCE, goes to 0 with RSTn, and moves at no other command (R1). -/
def Obligations.LocalTimeMoves : Prop :=
  ∀ (c : Instr) (s t : State), exec c s = .next t →
    t.tb.localTime = s.tb.localTime ∨
    (∃ rc act rq line, c = .microsecondAdvance rc act rq line ∧ t.tb.localTime = s.tb.localTime + 1) ∨
    ((∃ fb, c = .resetAssert fb) ∨ ∃ sa, c = .resetRelease sa) ∧ t.tb.localTime = 0

/-- HALTED is left by the reset pin alone, and in HALTED no other command changes the timebase, the book, PR, CT, PE, PS, the parameters
or the station number (R11, R13). That they stand while RSTn is low, until the release, is the model's choice (notes/assumptions/9). -/
def Obligations.HaltedStands : Prop :=
  ∀ (c : Instr) (s t : State), s.halted = true → (∀ sa, c ≠ .resetRelease sa) → exec c s = .next t →
    t.halted = true ∧ t.station = s.station ∧ t.params = s.params ∧ t.book = s.book ∧ t.pr = s.pr ∧ t.ct = s.ct ∧ t.pe = s.pe ∧
      t.ps = s.ps ∧ ((∀ fb, c ≠ .resetAssert fb) → t.tb = s.tb)

/-- A set alarm flag is cleared by four things alone: an ALARM_CLEAR that names it, for CLEAR_UNACKED a CLEAR_ACK, for LINE_NOISY a good
frame, and the release of the reset pin (R180, R184). That RESET_ASSERT clears none, and that the flags stand while RSTn is low, is the
model's choice (notes/assumptions/9). -/
def Obligations.FlagsStay : Prop :=
  ∀ (c : Instr) (s t : State) (a : Alarm), exec c s = .next t → a.inSet s.au.flags = true → a.inSet t.au.flags = false →
    (∃ sa, c = .resetRelease sa) ∨
    (∃ whole flags, c = .alarmClear whole flags ∧ a.inSet (flagSetOf flags) = true ∧ a ≠ .clearUnacked) ∨
    (∃ whole, c = .clearAck whole ∧ a = .clearUnacked) ∨
    a = .lineNoisy ∧ (c = .ownNumberFrame ∨ (∃ st b, c = .beaconReceived st b) ∨ (∃ st short b, c = .claimReceived st short b) ∨
      ∃ st tag, c = .withdrawReceived st tag)

/-! ## Reset -/

/-- RESET_ASSERT and FB_CHANGE_DURING_RESET: local time is 0, GNT follows FB and the line is released; while RSTn is low no other command
but RESET_RELEASE acts (R1, R116, R169; blocks take their values at the release, notes/assumptions/9). -/
def Obligations.ResetLineLow : Prop :=
  (∀ (fb : Bool) (s : State), s.pins.rstLow = false →
    exec (.resetAssert fb) s = .next
      { s with
        pins := { s.pins with rstLow := true, fb := fb }
        tb := { s.tb with localTime := 0, prescale := 0 }
        gd := { s.gd with gnt := fb }
        lc := { s.lc with driver := .released, contending := none, inTransmission := none, clearDrive := none } }) ∧
  (∀ (fb : Bool) (s : State), s.pins.rstLow = true →
    exec (.fbChangeDuringReset fb) s = .next { s with pins := { s.pins with fb := fb }, gd := { s.gd with gnt := fb } }) ∧
  ∀ (c : Instr) (s : State), s.pins.rstLow = true → (∀ sa, c ≠ .resetRelease sa) → (∀ fb, c ≠ .fbChangeDuringReset fb) →
    exec c s = .next s

/-- RESET_RELEASE samples the straps and gives every block its values after reset, field by field, those the manual states (R7, R10, R13,
R38, R39, R46, R66, R93, R116, R124, R125, R131, R132, R150, R155, R160, R162, R165, R169, R171, R179, R191, R195); L, d and the grace are
the model's choice (notes/assumptions/2), as are the number at which queue times start afresh (notes/assumptions/20) and CSn high, no
transaction being in progress (notes/assumptions/40). -/
def Obligations.ResetRelease : Prop :=
  ∀ (sa : Station) (s : State), s.pins.rstLow = true →
    let record (st : Station) : PeerRecord :=
      { station := st, state := .unheard, lastHeard := none, quietDeadline := none, lostDeadline := none, senderEpoch := none,
        lastOffset := none, offsetLatch := none, drift := 0, driftCount := 0, credit := 0, lastFresh := none, lastLiveCount := none,
        mismatch := 0, senderHold := none, senderProfile := none, jumps := 0 }
    let t : State :=
      { pins := { s.pins with rstLow := false, sa := sa }
        station := sa
        params := ⟨0, 0, 0⟩
        halted := false
        tb := { localTime := 0, prescale := 0, epochLength := 16384, timerRunning := false, epochCount := 0, lastBoundary := none,
                nextBoundary := none, monitor := .clockOk, windowCount := 0, rcCycles := 0, goodRun := 0 }
        book := []
        pr := { records := ([0, 1, 2, 3, 4, 5, 6, 7].filter fun st => decide (st ≠ sa)).map record, freshOwed := false, firstFresh := none }
        ct := []
        pe := { rankingCredit := 0, joining := .notJoined, joiningStart := none, joiningEnd := none }
        gd := { fallback := s.pins.fb, gnt := s.pins.fb, rq := { running := false, level := false, samples := 0 }, fast := .idle,
                fastSpan := none, fastPower := none }
        am := { act := { running := false, level := false, samples := 0 }, runningEpoch := 0, usage := 0, ring := List.replicate 8 0,
                credit := 0, shareTarget := none, stagedTarget := none, overrun := .clear, stretchStart := none, countDeadline := none }
        lc := { driver := .released, receiver := .waitIdle 0, latch := none, queue := [], nextAsk := 0, contending := none,
                inTransmission := none, badCount := 0, goodRun := 0, stretch := none, clearDetected := false, clearDrive := none,
                ack := .noClear }
        ps := { profileA := none, profileB := none, inForce := none, pending := none }
        au := { flags := 0, suspectCondition := false, stuckCondition := false, alertMask := 0, holdMask := 0, hold := false,
                alert := .none, newRaise := false, rxErrors := 0, clashes := 0, lateOverlaps := 0, overruns := 0, noticeLosses := 0 }
        rp := { queue := [], attn := false, transaction := none }
        free := s.free
        pending := s.pending }
    exec (.resetRelease sa) s = .next t ∧ t.part = .unset

/-- After reset every law of the part holds. That State.reset is the reset with station 0 and FB low is the model's choice
(notes/assumptions/1). -/
def Obligations.LawsAtReset : Prop :=
  State.reset = State.afterReset 0 false ∧
  ∀ (sa : Station) (fb : Bool), (State.afterReset sa fb).GntLaw ∧ (State.afterReset sa fb).HoldLaw ∧ (State.afterReset sa fb).BookLaw ∧
    (State.afterReset sa fb).NoticeLaw ∧ (State.afterReset sa fb).QueueLaw ∧ (State.afterReset sa fb).PeerLaw ∧
    (State.afterReset sa fb).ClaimLaw ∧ (State.afterReset sa fb).QuietLaw ∧ (State.afterReset sa fb).MeterLaw ∧
    (State.afterReset sa fb).PlacementLaw ∧ (State.afterReset sa fb).FastLaw ∧ (State.afterReset sa fb).LineLaw

/-! ## The radio port -/

/-- CSN_FALL fixes the head notice, and an ALERT is composed with the flags and the hold flag then standing (R186, R192). TRANSACTION_END
without a record: the head notice leaves the queue when it was shifted out in full; an owed ALERT, or the one a new raise calls for, takes
the freed entry (R185, R193, R194, R196). -/
def Obligations.Transactions : Prop :=
  (∀ s : State, s.pins.rstLow = false → s.rp.transaction = none →
    (s.rp.queue = [] → exec .csnFall s = .next { s with rp := { s.rp with transaction := some ⟨none⟩ } }) ∧
    (∀ n rest, s.rp.queue = n :: rest → n.isAlert = false →
      exec .csnFall s = .next { s with rp := { s.rp with transaction := some ⟨some n⟩ } }) ∧
    ∀ c rest, s.rp.queue = .alert c :: rest →
      exec .csnFall s = .next
        { s with
          rp := { s.rp with
            queue := .alert (some (s.au.flags, s.au.hold)) :: rest
            transaction := some ⟨some (.alert (some (s.au.flags, s.au.hold)))⟩ }
          au := { s.au with newRaise := false } }) ∧
  ∀ (whole : Nat) (s : State) (tr : Transaction), s.pins.rstLow = false → s.rp.transaction = some tr →
    ((∀ n, tr.out = some n → whole < n.length + 2) → ∃ t, exec (.transactionEnd whole .noRecord) s = .next t ∧
      State.Follows { s with rp := { s.rp with transaction := none } } t) ∧
    ∀ n m rest, tr.out = some n → n.length + 2 ≤ whole → s.rp.queue = m :: rest →
      ∃ t, exec (.transactionEnd whole .noRecord) s = .next t ∧
        (m.isAlert = false → s.au.alert ≠ .owed → State.Follows { s with rp := ⟨rest, !rest.isEmpty, none⟩ } t) ∧
        (m.isAlert = false → s.au.alert = .owed →
          State.Follows { s with rp := ⟨rest ++ [.alert none], true, none⟩, au := { s.au with alert := .queued } } t) ∧
        (m.isAlert = true → s.au.newRaise = false →
          State.Follows { s with rp := ⟨rest, !rest.isEmpty, none⟩, au := { s.au with alert := .none } } t) ∧
        (m.isAlert = true → s.au.newRaise = true →
          State.Follows
            { s with rp := ⟨rest ++ [.alert none], true, none⟩, au := { s.au with alert := .queued, newRaise := false } } t)

/-- The port's own refusals, the record that is passed over, and the rise that finds CSn high: UNKNOWN_KIND and BAD_LENGTH are answered in
every state; with no free entry a record is passed over without a trace (R193). A rise with CSn high stands for a whole transaction (the
model's choice, notes/assumptions/13). -/
def Obligations.PortAnswers : Prop :=
  (∀ (whole : Nat) (kind : Byte) (s b : State), s.pins.rstLow = false → s.riseCsn whole = b → 1 ≤ b.freeNotices →
    (∃ t, exec (.transactionEnd whole (.unknownKind kind)) s = .next t ∧
      (b.pushNotice (.reply kind .refused .unknownKind 0 [])).Follows t) ∧
    ∃ t, exec (.transactionEnd whole (.badLength kind)) s = .next t ∧ (b.pushNotice (.reply kind .refused .badLength 0 [])).Follows t) ∧
  (∀ (c : Instr) (whole : Nat) (s b : State), c.risesWith = some whole → s.pins.rstLow = false → s.riseCsn whole = b →
    b.freeNotices = 0 → ∃ t, exec c s = .next t ∧ b.Follows t) ∧
  ∀ (c : Instr) (whole : Nat) (s : State), c.risesWith = some whole → s.pins.rstLow = false → s.rp.transaction = none →
    exec c s = exec c s.fallCsn

/-- Records refused by the part state: HALTED refuses every kind but STATUS_READ, UNSET refuses with NOT_SET, and a second SETUP is refused
with ALREADY_SET; nothing else changes (R197). -/
def Obligations.RecordsRefused : Prop :=
  ∀ (c : Instr) (whole : Nat) (kind : Byte) (reason : Reason) (s b : State), c.risesWith = some whole → c.recordKind = some kind →
    s.pins.rstLow = false → s.riseCsn whole = b → 1 ≤ b.freeNotices →
    (s.part = .halted ∧ kind ≠ 10 ∧ reason = .halted ∨ s.part = .unset ∧ kind ∈ [2, 3, 4, 5, 6, 9] ∧ reason = .notSet ∨
      s.joined = true ∧ kind = 1 ∧ reason = .alreadySet) →
    ∃ t, exec c s = .next t ∧ (b.pushNotice (.reply kind .refused reason c.replyTag [])).Follows t

/-- SETUP accepted in UNSET, where the transmit queue is empty (R198): parameters, epoch timer, profiles, masks, meter, fast span, and
entry into JOINING with a FRESH beacon asked for (R7, R46, R95, R124, R131, R135). -/
def Obligations.SetupAccepted : Prop :=
  ∀ (whole : Nat) (act rq : Bool) (r : SetupRecord) (f : SetupFields) (s b : State), s.pins.rstLow = false → s.riseCsn whole = b →
    1 ≤ b.freeNotices → s.part = .unset → s.lc.queue = [] → (takeSetup r).value = f →
    let initial := match f.initial with
      | .a => f.profileA
      | .b => f.profileB
    let au := { b.au with alertMask := f.alertMask, holdMask := f.holdMask }
    ∃ t, exec (.setup whole act rq r) s = .next t ∧ State.Follows
      { b with
        pins := { b.pins with act := act, rq := rq }
        params := { lead := f.lead, debounce := f.debounce, grace := f.grace }
        tb := { b.tb with
          epochLength := f.epochLength
          timerRunning := true
          epochCount := 0
          lastBoundary := some b.now
          nextBoundary := some (later b.now f.epochLength) }
        ps := { profileA := some f.profileA, profileB := some f.profileB, inForce := some f.initial, pending := none }
        au := { au with hold := au.holdRule }
        am := { b.am with
          act := ⟨true, act, 0⟩
          runningEpoch := 0
          usage := 0
          shareTarget := some initial.share
          stagedTarget := none }
        gd := { b.gd with
          rq := ⟨true, rq, 0⟩
          fast := if rq then .spent else .idle
          fastSpan := some f.fast.span
          fastPower := some f.fast.power }
        pe := { b.pe with joining := .joining, joiningStart := none, joiningEnd := none }
        pr := { b.pr with freshOwed := true, firstFresh := none }
        lc := { b.lc with queue := [⟨.beacon, b.lc.nextAsk⟩], nextAsk := b.lc.nextAsk + 1 }
        rp := (b.pushNotice (.reply 1 (if (takeSetup r).clamped = [] then .accepted else .clamped) .none 0 (takeSetup r).clamped)).rp } t

/-- The fields a SETUP and a SUBMIT leave, each by the field of the record it is read from and its clamp, and so in their ranges; the
fields reported as clamped are those whose value changed, in ascending order (R14, R16, R131, R170, R199). A received claim is discarded
exactly when its span, window, anchor offset or period is out of range, and is taken otherwise with its class, power and direction read as
R67 says. -/
def Obligations.FieldsInRange : Prop :=
  let clamp (lo hi n : Nat) : Nat := max lo (min hi n)
  (∀ v : PowerTable, v.get 0 = v.p0 ∧ v.get 1 = v.p1 ∧ v.get 2 = v.p2 ∧ v.get 3 = v.p3) ∧
  (∀ r : SetupRecord, let f := (takeSetup r).value
    200 ≤ f.lead ∧ f.lead ≤ 20000 ∧ 4096 ≤ f.epochLength ∧ f.epochLength ≤ 65536 ∧ 1024 ∣ f.epochLength ∧ f.debounce ≤ 15 ∧ f.grace ≤ 255 ∧
    2400 ≤ f.fast.span.low ∧ f.fast.span.low ≤ f.fast.span.high ∧ f.fast.span.high ≤ f.fast.span.low + 1000 ∧ f.fast.span.high ≤ 8500 ∧
    (∀ p ∈ [f.profileA, f.profileB], p.share ≤ 1000 ∧ p.allowance ≤ f.epochLength ∧ 100 ≤ p.fastMax ∧ p.fastMax ≤ 5000 ∧
      10 ≤ p.fastMin ∧ p.fastMin ≤ p.fastMax ∧ p.guardTime ≤ 255 ∧ p.same ≤ 1000 ∧
      ∀ pc, p.vict.get pc ≤ 1000 ∧ p.aggr.get pc ≤ 1000) ∧
    let low := clamp 2400 8500 r.fastLow.toNat
    let table (x : PowerFields) : PowerTable := ⟨min 1000 x.p0.toNat, min 1000 x.p1.toNat, min 1000 x.p2.toNat, min 1000 x.p3.toNat⟩
    let profile (x : ProfileRecord) : Profile :=
      { share := min 1000 x.share.toNat
        allowance := min (1024 * clamp 4 64 r.epochUnits.toNat) x.allowance.toNat
        fastEnable := x.fastEnable ≠ 0
        fastMax := clamp 100 5000 x.fastMax.toNat
        fastMin := clamp 10 (clamp 100 5000 x.fastMax.toNat) x.fastMin.toNat
        guardTime := min 255 x.guardTime.toNat
        vict := table x.vict
        aggr := table x.aggr
        same := min 1000 x.same.toNat }
    let inTable (no : Nat) (v : PowerTable) (x : PowerFields) : List (Nat × Bool) :=
      [(no, v.p0 ≠ x.p0.toNat), (no + 1, v.p1 ≠ x.p1.toNat), (no + 2, v.p2 ≠ x.p2.toNat), (no + 3, v.p3 ≠ x.p3.toNat)]
    let inProfile (no : Nat) (v : Profile) (x : ProfileRecord) : List (Nat × Bool) :=
      let first : List (Nat × Bool) :=
        [(no, v.share ≠ x.share.toNat), (no + 1, v.allowance ≠ x.allowance.toNat), (no + 3, v.fastMax ≠ x.fastMax.toNat),
          (no + 4, v.fastMin ≠ x.fastMin.toNat), (no + 5, v.guardTime ≠ x.guardTime.toNat)]
      first ++ inTable (no + 6) v.vict x.vict ++ inTable (no + 10) v.aggr x.aggr ++ [(no + 14, decide (v.same ≠ x.same.toNat))]
    f =
      { lead := clamp 200 20000 r.lead.toNat
        epochLength := 1024 * clamp 4 64 r.epochUnits.toNat
        debounce := min 15 r.debounce.toNat
        grace := r.grace.toNat
        alertMask := r.alertMask.setWidth 11
        holdMask := r.holdMask.setWidth 11
        fast := ⟨⟨low, clamp low (low + 1000) (clamp 2400 8500 r.fastHigh.toNat)⟩, f.fast.power⟩
        initial := if r.initial = 1 then .b else .a
        profileA := profile r.profileA
        profileB := profile r.profileB } ∧
    f.fast.power.val = min 3 r.fastPower.toNat ∧
    let single : List (Nat × Bool) :=
      [(1, f.lead ≠ r.lead.toNat), (2, f.epochLength ≠ 1024 * r.epochUnits.toNat), (3, f.debounce ≠ r.debounce.toNat),
        (7, f.fast.span.low ≠ r.fastLow.toNat), (8, f.fast.span.high ≠ r.fastHigh.toNat), (9, f.fast.power.val ≠ r.fastPower.toNat),
        (10, r.initial ≠ 0 ∧ r.initial ≠ 1)]
    (takeSetup r).clamped = changedFields (single ++ inProfile 11 f.profileA r.profileA ++ inProfile 26 f.profileB r.profileB)) ∧
  (∀ r : SubmitRecord, let q := (takeSubmit r).value
    q.inRange ∧ 2400 ≤ q.low ∧ q.low ≤ 8500 ∧ 2400 ≤ q.high ∧ q.high ≤ 8500 ∧ (q.dir = .rx → q.power = 0) ∧
    q =
      { tag := r.tag
        startOffset := r.startOffset.toNat
        duration := max 10 r.duration.toNat
        slack := r.slack.toNat
        period := if r.periodic then some r.period.toNat else none
        count := if r.periodic then r.count.toNat else 1
        dir := q.dir
        low := clamp 2400 8500 r.low.toNat
        high := clamp 2400 8500 r.high.toNat
        power := q.power
        cls := q.cls
        minDuration := r.minDuration.map fun m => clamp 10 (max 10 r.duration.toNat) m.toNat } ∧
    [.tx, .rx, .txrx, .txrx][r.dir.toNat]? = some q.dir ∧
    q.power.val = (if q.dir = .rx then 0 else min 3 r.power.toNat) ∧
    [.bulk, .normal, .link, .stream, .critical][min 4 r.cls.toNat]? = some q.cls ∧
    (takeSubmit r).clamped = changedFields
      [(4, q.duration ≠ r.duration.toNat), (8, r.dir = 3), (9, q.low ≠ r.low.toNat), (10, q.high ≠ r.high.toNat),
        (11, q.dir ≠ .rx ∧ q.power.val ≠ r.power.toNat), (12, 4 < r.cls.toNat), (13, q.minDuration ≠ r.minDuration.map BitVec.toNat)]) ∧
  ∀ (st : Station) (b : ClaimBody) (latch : Time),
    let low := min 8500 (2400 + b.low.toNat)
    let high := min 8500 (2400 + b.high.toNat)
    let offset := b.anchorOffset.toInt
    let good := low ≤ high ∧ high ≤ low + 1000 ∧ 10 ≤ b.window.toNat ∧ b.window.toNat ≤ 131070 ∧ -131070 ≤ offset ∧ offset ≤ 4000000 ∧
      (b.period = 0 ∨ 100 ≤ b.period.toNat ∧ b.period.toNat ≤ 1000000 ∧ b.window.toNat < b.period.toNat)
    (¬ good → takeClaim st b latch = none) ∧
    (good → ∃ c, takeClaim st b latch = some c ∧
      c = { station := st, tag := b.tag, cls := c.cls, dir := c.dir, power := c.power, low := low, high := high, window := b.window.toNat
            period := if b.period = 0 then none else some b.period.toNat
            remaining := if b.period = 0 then some 1 else if b.remaining = 0 then none else some b.remaining.toNat
            anchorLocal := latch, anchorOffset := offset, lastAnnouncement := latch, lease := latch, expiry := none } ∧
      [.bulk, .normal, .link, .stream, .critical][min 4 b.cls.toNat]? = some c.cls ∧ c.power.val = b.power.toNat ∧
      (c.dir = .tx ↔ b.dir = 0) ∧ (c.dir = .rx ↔ b.dir = 1))

/-! ## Records -/

/-- A SUBMIT admitted in JOINING or RUNNING (R16, R17, R18, R19, R23, R59, R61): the REPLY, the new entry at the end of the book, and the
ask for its CLAIM, which replaces a WITHDRAW still queued for the tag; a commit point in the past is committed at once (R106). That the ask
comes before that commit is the model's choice (notes/assumptions/36), and so is that the commit comes before another entry's that is due at
the same instant (notes/assumptions/38). -/
def Obligations.SubmitAdmitted : Prop :=
  ∀ (whole : Nat) (r : SubmitRecord) (q : Request) (clamped : List Nat) (e : Entry) (s b : State), s.pins.rstLow = false →
    s.riseCsn whole = b → 1 ≤ b.freeNotices → s.joined = true → takeSubmit r = ⟨q, clamped⟩ → s.lc.ack = .noClear →
    s.book.length < 16 → (∀ x ∈ s.book, x.tag ≠ r.tag) → q.startOffset ≤ 4000000 → q.low ≤ q.high → q.high - q.low ≤ 1000 →
    (∀ p, q.period = some p → 100 ≤ p ∧ p ≤ 1000000 ∧ q.claimWindow < p) →
    let load (x : Request) : Nat := (x.duration + x.slack) * (match x.period with
      | some p => (s.tb.epochLength + p - 1) / p
      | none => 1)
    let counted := load q + ((s.book.filter fun x => x.state ≠ .retiring ∧ x.effClass = .critical).map fun x => load x.request).sum
    let demoted : Bool := q.cls = .critical ∧ s.profile.allowance < counted
    e =
      { request := q
        effClass := if demoted then .stream else q.cls
        sequence := s.nextSequence
        index := 0
        windowStart := later s.now q.startOffset
        commitPoint := later s.now q.startOffset - BitVec.ofNat 32 s.params.lead
        state := .waiting
        announced := false
        lastAnnounced := none
        held := s.pe.joining == .joining && s.pr.firstFresh.isNone
        stage := .taken
        placement := none
        counters := ⟨0, 0, 0, 0, 0, 0⟩ } →
    let outcome := if demoted then ReplyOutcome.demoted else if clamped = [] then .accepted else .clamped
    let taken : State := { b.pushNotice (.reply 2 outcome .none r.tag clamped) with book := b.book ++ [e] }
    let admitted (queue : List QueuedFrame) : State :=
      { taken with lc := { b.lc with queue := queue ++ [⟨.claim r.tag, b.lc.nextAsk⟩], nextAsk := b.lc.nextAsk + 1 } }
    ∀ u : State,
      (e.held = true ∧ u = taken ∨
        e.held = false ∧ s.lc.queue.length < 17 ∧ (∀ f ∈ s.lc.queue, f.ref.tagOf ≠ some r.tag) ∧ u = admitted s.lc.queue ∨
        e.held = false ∧ s.lc.queue.length ≤ 17 ∧ (∀ f ∈ s.lc.queue, f.ref ≠ .claim r.tag) ∧ (∃ f ∈ s.lc.queue, f.ref = .withdraw r.tag) ∧
          u = admitted (s.lc.queue.filter (·.ref ≠ .withdraw r.tag))) →
      ∃ t, exec (.submit whole r) s = .next t ∧ (0 < s.distance e.commitPoint → u.Follows t) ∧
        (s.distance e.commitPoint ≤ 0 → (u.commitWhileDue r.tag).Follows t)

/-- A SUBMIT refused in JOINING or RUNNING: the first check that fails gives the reason (R15). -/
def Obligations.SubmitRefused : Prop :=
  ∀ (whole : Nat) (r : SubmitRecord) (q : Request) (reason : Reason) (s b : State), s.pins.rstLow = false → s.riseCsn whole = b →
    1 ≤ b.freeNotices → s.joined = true → (takeSubmit r).value = q →
    let clear := s.lc.ack = .noClear
    let room := s.book.length < 16
    let fresh := ∀ x ∈ s.book, x.tag ≠ r.tag
    let near := q.startOffset ≤ 4000000
    let span := q.low ≤ q.high ∧ q.high - q.low ≤ 1000
    let period := ∀ p, q.period = some p → 100 ≤ p ∧ p ≤ 1000000 ∧ q.claimWindow < p
    (¬ clear ∧ reason = .clearPending ∨ clear ∧ ¬ room ∧ reason = .bookFull ∨ clear ∧ room ∧ ¬ fresh ∧ reason = .tagBusy ∨
      clear ∧ room ∧ fresh ∧ ¬ near ∧ reason = .horizon ∨ clear ∧ room ∧ fresh ∧ near ∧ ¬ span ∧ reason = .badSpan ∨
      clear ∧ room ∧ fresh ∧ near ∧ span ∧ ¬ period ∧ reason = .badPeriod) →
    ∃ t, exec (.submit whole r) s = .next t ∧ (b.pushNotice (.reply 2 .refused reason r.tag [])).Follows t

/-- CANCEL in JOINING or RUNNING (R29, R30, R31, R33, R35, R62): REQ_END CANCELLED after the REPLY; an entry never announced leaves with
its queued CLAIM, an announced one enters RETIRING and asks for a WITHDRAW (TransmitQueue has the ask at a full queue); a tag not in the
book, or RETIRING, is refused. -/
def Obligations.CancelEnds : Prop :=
  ∀ (whole : Nat) (tag : Tag) (s b : State), s.pins.rstLow = false → s.riseCsn whole = b → 1 ≤ b.freeNotices → s.joined = true →
    (s.findEntry tag = none ∨ (∃ e, s.findEntry tag = some e ∧ e.state = .retiring) → ∃ t, exec (.cancel whole tag) s = .next t ∧
      (b.pushNotice (.reply 3 .refused .unknownTag tag [])).Follows t) ∧
    ∀ e, s.findEntry tag = some e → e.state ≠ .retiring →
      let ended := if e.state = .committed ∨ e.state = .active then e.index + 1 else e.index
      let told := (b.pushNotice (.reply 3 .accepted .none tag [])).offerNotice (.reqEnd tag .cancelled e.stage ended e.counters)
      let others := b.lc.queue.filter fun f => f.ref ≠ .claim tag ∧ f.ref ≠ .withdraw tag
      ∃ t, exec (.cancel whole tag) s = .next t ∧
        (e.announced = false → State.Follows
          { told with
            book := b.book.filter (·.tag ≠ tag)
            lc := { b.lc with queue := b.lc.queue.filter (·.ref ≠ .claim tag) } } t) ∧
        (e.announced = true → State.Follows (State.askWithdraw
          { told with book := b.book.map fun x => if x.tag = tag then { x with state := .retiring, placement := none } else x } tag) t) ∧
        (e.announced = true → others.length < 17 → State.Follows
          { told with
            book := b.book.map fun x => if x.tag = tag then { x with state := .retiring, placement := none } else x
            lc := { b.lc with queue := others ++ [⟨.withdraw tag, b.lc.nextAsk⟩], nextAsk := b.lc.nextAsk + 1 } } t)

/-- PROFILE_SELECT makes the profile named pending, or none when it is the profile in force (R172); FAST_SPAN replaces the fast span and
fast power class by its fields as clamped, and reports those, or is refused BAD_SPAN (R130). Both in JOINING and RUNNING. -/
def Obligations.ProfileAndFastSpan : Prop :=
  (∀ (whole : Nat) (code : Byte) (s b : State), s.pins.rstLow = false → s.riseCsn whole = b → 1 ≤ b.freeNotices → s.joined = true →
    let named := if code = 0 then ProfileName.a else .b
    let told := b.pushNotice (if code = 0 ∨ code = 1 then .reply 4 .accepted .none 0 [] else .reply 4 .clamped .none 0 [1])
    ∃ t, exec (.profileSelect whole code) s = .next t ∧ State.Follows
      { told with ps := { b.ps with pending := if b.ps.inForce = some named then none else some named } } t) ∧
  ∀ (whole : Nat) (r : FastSpanRecord) (power : PowerClass) (s b : State), s.pins.rstLow = false →
    s.riseCsn whole = b → 1 ≤ b.freeNotices → s.joined = true → power.val = min 3 r.power.toNat →
    let low := max 2400 (min 8500 r.low.toNat)
    let high := max 2400 (min 8500 r.high.toNat)
    let clamped := changedFields [(1, low ≠ r.low.toNat), (2, high ≠ r.high.toNat), (3, power.val ≠ r.power.toNat)]
    ∃ t, exec (.fastSpan whole r) s = .next t ∧
      (low ≤ high → high - low ≤ 1000 → State.Follows
        { b.pushNotice (.reply 5 (if clamped = [] then .accepted else .clamped) .none 0 clamped) with
          gd := { b.gd with fastSpan := some ⟨low, high⟩, fastPower := some power } } t) ∧
      (high < low ∨ 1000 < high - low → (b.pushNotice (.reply 5 .refused .badSpan 0 [])).Follows t)

/-- CLEAR_LINE in JOINING and RUNNING (R156, R163): the own frame is cut and discarded, and the line is driven dominant for 48 µs; the
receiver's part is DEDUCED from R150 (notes/assumptions/16), its stretch begins at the record time, or goes on when the line was already
dominant; a contending frame is discarded (notes/assumptions/12). -/
def Obligations.ClearLineStarts : Prop :=
  ∀ (whole : Nat) (s b : State), s.pins.rstLow = false → s.riseCsn whole = b → 1 ≤ b.freeNotices → s.joined = true →
    ∃ t, exec (.clearLine whole) s = .next t ∧ State.Follows
      { b.pushNotice (.reply 6 .accepted .none 0 []) with
        lc := { b.lc with
          driver := .dominant
          receiver := match b.lc.receiver with
            | .waitIdle _ => .waitIdle 0
            | .idle => .frame
            | .frame => .frame
          latch := if b.lc.receiver = .idle then some b.now else b.lc.latch
          queue := match b.lc.contending with
            | none => b.lc.queue
            | some c => b.lc.queue.filter (·.ref ≠ c.ref)
          contending := none
          inTransmission := none
          stretch := match b.lc.stretch with
            | none => some b.now
            | some start => some start
          clearDrive := some (later b.now 48) } } t

/-- CLEAR_ACK ends the acknowledge wait and clears CLEAR_UNACKED; ALARM_CLEAR clears the flags named, but never CLEAR_UNACKED and no flag
whose condition is present; the hold flag follows (R165, R182, R184, R187). Both but in HALTED. -/
def Obligations.ClearAckAlarmClear : Prop :=
  ∀ (whole : Nat) (s b : State), s.pins.rstLow = false → s.riseCsn whole = b → 1 ≤ b.freeNotices → s.halted = false →
    (∃ t, exec (.clearAck whole) s = .next t ∧
      (s.lc.ack = .noClear → (b.pushNotice (.reply 7 .accepted .none 0 [])).Follows t) ∧
      (s.lc.ack ≠ .noClear → (∃ u : State, u.Follows t ∧
        u = { b.pushNotice (.reply 7 .accepted .none 0 []) with lc := { b.lc with ack := .noClear }, au := u.au } ∧
        u.au = { b.au with flags := u.au.flags, hold := u.au.holdRule } ∧
        ∀ a : Alarm, a.inSet u.au.flags = (a.inSet b.au.flags && a != .clearUnacked)))) ∧
    ∀ flags : BitVec 16, ∃ t, exec (.alarmClear whole flags) s = .next t ∧ ∃ u : State, u.Follows t ∧
      u = { b.pushNotice (.reply 8 .accepted .none 0 []) with au := u.au } ∧
      u.au = { b.au with flags := u.au.flags, hold := u.au.holdRule } ∧
      ∀ a : Alarm, a.inSet u.au.flags =
        (a.inSet b.au.flags && !(a.inSet (flagSetOf flags) && a != .clearUnacked &&
          !(a == .clockSuspect && b.au.suspectCondition) && !(a == .lineStuck && b.au.stuckCondition)))

/-- The three reads: the REPLY, then the report of the present instant, offered in the reserve class (R4, R143, R144, R195, R200). The count
that picks the free values of a report goes on (notes/assumptions/14). -/
def Obligations.Reads : Prop :=
  ∀ (whole : Nat) (s b : State), s.pins.rstLow = false → s.riseCsn whole = b → 1 ≤ b.freeNotices →
    (s.joined = true → ∃ t, exec (.meterRead whole) s = .next t ∧
      ((b.pushNotice (.reply 9 .accepted .none 0 [])).offerNotice
        (.meterReport b.am.ring b.am.usage b.am.credit b.pe.rankingCredit b.au.overruns)).Follows t) ∧
    (∃ t, exec (.statusRead whole) s = .next t ∧ State.Follows
      { (b.pushNotice (.reply 10 .accepted .none 0 [])).offerNotice (.statusReport
          { part := b.part, hold := b.au.hold, station := b.station, fallback := b.gd.fallback, flags := b.au.flags
            rxErrors := b.au.rxErrors, clashes := b.au.clashes, lateOverlaps := b.au.lateOverlaps, overruns := b.au.overruns
            noticeLosses := b.au.noticeLosses, inForce := b.ps.inForce, pendingProfile := b.ps.pending, monitor := b.tb.monitor
            ack := b.lc.ack
            peers := b.pr.records.map fun r => ⟨r.station, r.state, r.credit, r.senderHold, r.senderProfile, r.jumps⟩
            free := b.free }) with
        free := b.free + 1 } t) ∧
    (s.halted = false → ∃ t, exec (.timeRead whole) s = .next t ∧ State.Follows
      { (b.pushNotice (.reply 11 .accepted .none 0 [])).offerNotice
          (.timeReport b.now b.tb.epochCount b.tb.lastBoundary b.tb.epochLength b.tb.monitor b.free) with
        free := b.free + 1 } t)

/-! ## Notices and alarms -/

/-- A reserve-class notice is queued when 3 entries are free, and dropped, counted and reported as NOTICE_LOSS otherwise; ATTN is asserted
with a notice queued (R195, R196). -/
def Obligations.NoticeOffered : Prop :=
  ∀ (s : State) (n : Notice),
    (s.rp.queue.length ≤ 29 → s.offerNotice n = { s with rp := { s.rp with queue := s.rp.queue ++ [n], attn := true } }) ∧
    (29 < s.rp.queue.length →
      s.offerNotice n = State.raiseAlarm
        { s with au := { s.au with
            noticeLosses := if s.au.noticeLosses = 65535 then 65535 else s.au.noticeLosses + 1 } } .noticeLoss ∧
      ∀ x ∈ (s.offerNotice n).rp.queue, x ∈ s.rp.queue ∨ x = .alert none)

/-- Everything a raise does (R180, R185, R187): a flag already set gives no new raise; a masked one changes the flags and the hold flag
alone; an unmasked one queues an ALERT, leaves one owed when no entry is free, or marks an ALERT composed before it. -/
def Obligations.AlarmRaised : Prop :=
  ∀ (s : State) (a : Alarm),
    (a.inSet s.au.flags = true → s.raiseAlarm a = s) ∧
    (a.inSet s.au.flags = false →
      let t := s.raiseAlarm a
      (∀ x : Alarm, x.inSet t.au.flags = (x.inSet s.au.flags || x == a)) ∧ t.au.hold = t.au.holdRule ∧
      t = { s with au := t.au, rp := t.rp } ∧
      t.au = { s.au with flags := t.au.flags, hold := t.au.hold, alert := t.au.alert, newRaise := t.au.newRaise } ∧
      (a.inSet s.au.alertMask = true → t.au.alert = s.au.alert ∧ t.au.newRaise = s.au.newRaise ∧ t.rp = s.rp) ∧
      (a.inSet s.au.alertMask = false → s.au.alert = .none → s.rp.queue.length < 32 →
        t.au.alert = .queued ∧ t.au.newRaise = s.au.newRaise ∧ t.rp = { s.rp with queue := s.rp.queue ++ [.alert none], attn := true }) ∧
      (a.inSet s.au.alertMask = false → s.au.alert = .none → 32 ≤ s.rp.queue.length →
        t.au.alert = .owed ∧ t.au.newRaise = s.au.newRaise ∧ t.rp = s.rp) ∧
      (a.inSet s.au.alertMask = false → s.au.alert = .queued → t.au.alert = .queued ∧ t.rp = s.rp ∧
        (t.au.newRaise = true ↔ s.au.newRaise = true ∨ ∃ c, Notice.alert (some c) ∈ s.rp.queue)) ∧
      (a.inSet s.au.alertMask = false → s.au.alert = .owed → t.au.alert = .owed ∧ t.au.newRaise = s.au.newRaise ∧ t.rp = s.rp))

/-! ## Timebase -/

/-- MICROSECOND_ADVANCE (R1, R9, R124, R133, R134, R150, R162): local time by one, the edges and cycles counted, the usage counted while
filtered ACT is high, and each running filter counts its samples of a new level. LC follows the line: in WAIT IDLE it counts recessive
bits, and a falling edge sets the count back to 0; a falling edge begins a dominant stretch, whatever the receiver state, and a rising edge
ends it. It waits until every due point is taken, a stretch of 64 bit times as a line clear among them (the model's choice,
notes/assumptions/4), and so until every event of the line that has a row of its own is taken (DEDUCED, notes/assumptions/15). -/
def Obligations.Advance : Prop :=
  (∀ (rc : Nat) (act rq : Bool) (line : List LineEvent) (s : State),
    let sample (f : Filter) (pin : Bool) : Filter :=
      if f.running = false then f else { f with samples := if pin = f.level then 0 else f.samples + 1 }
    (s.mayAdvance rc line = true → ∃ t, exec (.microsecondAdvance rc act rq line) s = .next t ∧ State.Follows
      { s with
        pins := { s.pins with act := act, rq := rq }
        tb := { s.tb with
          localTime := s.tb.localTime + 1
          prescale := 0
          windowCount := s.tb.windowCount + (24 - s.tb.prescale)
          rcCycles := s.tb.rcCycles + rc }
        am := { s.am with
          usage := s.am.usage + if s.am.act.running = true ∧ s.am.act.level = true then 1 else 0
          act := sample s.am.act act }
        gd := { s.gd with rq := sample s.gd.rq rq }
        lc := line.foldl (LineController.follow s.now) s.lc } t) ∧
    (s.mayAdvance rc line = false → exec (.microsecondAdvance rc act rq line) s = .next s) ∧
    (∀ start, s.lc.stretch = some start → s.lc.clearDetected = false → s.distance (later start 32) ≤ 0 → s.mayAdvance rc line = false) ∧
    (s.mayFollow line = false → s.mayAdvance rc line = false)) ∧
  (∀ (now : Time) (l : LineController),
    l.follow now .fall = { l with
      receiver := match l.receiver with
        | .waitIdle _ => .waitIdle 0
        | .idle => .idle
        | .frame => .frame
      stretch := some (l.stretch.getD now) } ∧
    l.follow now .rise = { l with stretch := none } ∧
    (∀ n, l.receiver = .waitIdle n → l.follow now .recessiveBit = { l with receiver := if n < 10 then .waitIdle (n + 1) else .idle }) ∧
    (l.receiver = .idle ∨ l.receiver = .frame → l.follow now .recessiveBit = l)) ∧
  ∀ (s : State) (line : List LineEvent), s.mayFollow line = true ↔ line.count .recessiveBit ≤ 3 ∧
    ∀ before e after, line = before ++ e :: after →
      let l := before.foldl (LineController.follow s.now) s.lc
      (e = .fall → l.receiver ≠ .idle) ∧ (e = .rise → l.clearDetected = false ∧ l.clearDrive = none) ∧
        (e = .recessiveBit → l.stretch = none ∧ ∀ n, l.receiver = .waitIdle n → n < 10)

/-- MONITOR_WINDOW_CLOSE: the verdict on the count at close and what the monitor does with it in each state (R9, R10, R71, R181). That a
window whose RC cycles are all counted takes no further edge is DEDUCED (notes/assumptions/8). -/
def Obligations.MonitorWindow : Prop :=
  ∀ (edges : Nat) (s : State),
    (2048 ≤ s.tb.rcCycles → edges ≠ 0 → exec (.monitorWindowClose edges) s = .next s) ∧ (s.working = true → s.tb.prescale + edges < 24 →
    s.tb.windowCount + edges ≤ 6759 → s.tb.rcCycles < 2048 ∨ edges = 0 →
    let count := s.tb.windowCount + edges
    let closed : State := { s with tb := { s.tb with prescale := s.tb.prescale + edges, windowCount := 0, rcCycles := 0 } }
    let judged (m : MonitorState) (run : Nat) : State := { closed with tb := { closed.tb with monitor := m, goodRun := run } }
    let inRange := 5530 ≤ count ∧ count ≤ 6758
    ∃ t, exec (.monitorWindowClose edges) s = .next t ∧
      (count = 0 → closed.enterHalted.Follows t) ∧
      (inRange → s.tb.monitor = .clockOk → closed.Follows t) ∧
      (inRange → s.tb.monitor = .clockSuspect → s.tb.goodRun < 15 → (judged .clockSuspect (s.tb.goodRun + 1)).Follows t) ∧
      (inRange → s.tb.monitor = .clockSuspect → 15 ≤ s.tb.goodRun → State.Follows
        { judged .clockOk 0 with
          ct := ((judged .clockOk 0).recomputeExpiry fun _ => true).ct
          au := { s.au with suspectCondition := false } } t) ∧
      (count ≠ 0 → ¬ inRange → s.tb.monitor = .clockSuspect → (judged .clockSuspect 0).Follows t) ∧
      (count ≠ 0 → ¬ inRange → s.tb.monitor = .clockOk → (State.raiseAlarm
        { judged .clockSuspect 0 with
          ct := ((judged .clockSuspect 0).recomputeExpiry fun _ => true).ct
          au := { s.au with suspectCondition := true } } .clockSuspect).Follows t))

/-- Entry to HALTED (R10, R11, R37, R125, R146, R168): the timer, the monitor and the filters stop, the book and the transmit queue are
empty, the line is released, GNT stands at FB, and, with room for them, a REQ_END HALTED is queued in book order for each standing entry,
after the ALERT that CLOCK_LOST may call for (the order is the model's choice, notes/assumptions/10; so are the zeros of the good-window
run and of the window counts, notes/assumptions/34, and that both filters keep their counts of samples, notes/assumptions/42). That the
receiver field is left as it stood is DEDUCED (notes/assumptions/23). -/
def Obligations.HaltedEntry : Prop :=
  ∀ s : State,
    let t := s.enterHalted
    let ends := s.bookOrder.map fun e => Notice.reqEnd e.tag .halted e.stage
      (if e.state = .committed ∨ e.state = .active then e.index + 1 else e.index) e.counters
    t.part = .halted ∧ t.gntLevel = s.gd.fallback ∧ Alarm.clockLost.inSet t.au.flags = true ∧ t.au.suspectCondition = false ∧
      t.au.stuckCondition = false ∧ t.book = [] ∧
      t.tb = { s.tb with prescale := 0, timerRunning := false, monitor := .clockLost, windowCount := 0, rcCycles := 0, goodRun := 0 } ∧
      t.lc = { s.lc with
        driver := .released, latch := none, queue := [], contending := none, inTransmission := none, stretch := none
        clearDetected := false, clearDrive := none } ∧
      t.am = { s.am with
        act := { s.am.act with running := false }, overrun := .clear, stretchStart := none, countDeadline := none } ∧
      t.gd = { s.gd with rq := { s.gd.rq with running := false }, fast := .idle } ∧
      t.pr = s.pr ∧ t.ct = s.ct ∧ t.pe = s.pe ∧ t.ps = s.ps ∧ t.params = s.params ∧ t.station = s.station ∧
      ((s.raiseAlarm .clockLost).rp.queue.length + ends.length ≤ 30 →
        t.rp.queue = (s.raiseAlarm .clockLost).rp.queue ++ ends)

/-- EPOCH_BOUNDARY, each block in turn (R7, R8, R45, R60, R61, R137, R138, R173, R175): TB counts the epoch, AM closes it, a BEACON and the
claims to be repeated are asked for, and a pending profile comes into force with its share target and PROFILE_APPLIED. The order of the
blocks is the model's choice (notes/assumptions/35). -/
def Obligations.EpochBoundary : Prop :=
  ∀ (boundary : Time) (s : State), s.working = true → s.tb.timerRunning = true → s.tb.nextBoundary = some boundary →
    s.distance boundary ≤ 0 →
    let epoch := s.tb.epochCount + 1
    let ring := s.am.ring.drop 1 ++ [s.am.usage]
    let closed : State :=
      { s with
        tb := { s.tb with
          epochCount := epoch
          lastBoundary := some boundary
          nextBoundary := some (later boundary s.tb.epochLength) }
        am := { s.am with
          ring := ring
          credit := ((s.am.shareTarget.getD 0 : Nat) : Int) - ((ring.sum * 1000 / (8 * s.tb.epochLength) : Nat) : Int)
          shareTarget := if s.am.stagedTarget.isSome then s.am.stagedTarget else s.am.shareTarget
          stagedTarget := none
          usage := 0
          runningEpoch := epoch } }
    let repeated (e : Entry) : Bool := e.announced && e.standing && !e.held &&
      (s.pe.joining == .joining || e.lastAnnounced.any fun n => 8 ≤ (epoch - n).toNat)
    let asked := closed.askBeacon.askClaims ((s.bookOrder.filter repeated).map Entry.tag)
    ∃ t, exec .epochBoundary s = .next t ∧
      (s.ps.pending = none → asked.Follows t) ∧
      ∀ p, s.ps.pending = some p →
        let switched : State := { asked with ps := { s.ps with inForce := some p, pending := none } }
        (State.offerNotice { switched with am := { closed.am with shareTarget := some switched.profile.share } }
          (.profileApplied p epoch s.now)).Follows t

/-! ## Commit and placement -/

/-- Book order holds the standing entries once each, by window start and then by admission (R20). COMMIT_POINT takes the first due entry in
book order (R20, R98, R107) and gives its occurrence the decision of R97 to R103: a grant or a clip is placed, a skipped occurrence ends,
and OCCURRENCE reports it (R25, R28, R104, R105). A next commit point that is not in the future is committed at once (R106), before another
entry's that is due (the model's choice, notes/assumptions/38). -/
def Obligations.CommitPoint : Prop :=
  (∀ s : State, s.bookOrder.Perm (s.book.filter fun e => e.state ≠ .retiring) ∧
    s.bookOrder.Pairwise fun a b => s.distance a.windowStart < s.distance b.windowStart ∨
      s.distance a.windowStart = s.distance b.windowStart ∧ a.sequence ≤ b.sequence) ∧
  ∀ (s : State) (e : Entry), s.working = true →
    s.bookOrder.find? (fun e => e.state = .waiting ∧ s.distance e.commitPoint ≤ 0) = some e → s.findEntry e.tag = some e →
    (∀ x ∈ s.book, x.tag = e.tag → x = e) →
    let placed (start : Int) (length : Nat) (clipped : Bool) (counters : Counters) (outcome : CommitOutcome) : State :=
      State.offerNotice
        { s with book := s.book.map fun x => if x.tag = e.tag then
            { e with
              state := .committed
              placement := some ⟨s.timeAt start, length, clipped⟩
              stage := e.stage.raiseTo .committed
              counters := counters }
            else x }
        (.occurrence e.tag e.index outcome (s.timeAt start) length s.au.hold)
    let skipped := { e with counters := { e.counters with skipped := e.counters.skipped + 1 } }
    let told (outcome : CommitOutcome) : State := s.offerNotice (.occurrence e.tag e.index outcome e.windowStart 0 s.au.hold)
    ∃ t, exec .commitPoint s = .next t ∧
      (∀ start length, s.decide e = .grant start length →
        (placed start length false { e.counters with granted := e.counters.granted + 1 } .grant).Follows t) ∧
      (∀ start length, s.decide e = .clip start length →
        (placed start length true { e.counters with clipped := e.counters.clipped + 1 } .clip).Follows t) ∧
      ∀ outcome, (s.decide e = .skipStrongerPeer ∧ outcome = .skipStrongerPeer ∨
          s.decide e = .skipJoining ∧ outcome = .skipJoining) →
        (e.request.period = none ∨ e.request.count ≠ 0 ∧ e.request.count ≤ e.index.toNat + 1 → State.Follows
          { (told outcome).offerNotice (.reqEnd e.tag .done e.stage (e.index + 1) skipped.counters) with
            book := s.book.filter (·.tag ≠ e.tag)
            lc := { s.lc with queue := s.lc.queue.filter (·.ref ≠ .claim e.tag) } } t) ∧
        ∀ p, e.request.period = some p → (e.request.count = 0 ∨ e.index.toNat + 1 < e.request.count) →
          let ws := later e.windowStart p
          let advanced : State :=
            { told outcome with book := s.book.map fun x => if x.tag = e.tag then
                { skipped with
                  index := e.index + 1
                  windowStart := ws
                  commitPoint := ws - BitVec.ofNat 32 s.params.lead
                  placement := none }
                else x }
          (0 < s.distance (ws - BitVec.ofNat 32 s.params.lead) → advanced.Follows t) ∧
          (s.distance (ws - BitVec.ofNat 32 s.params.lead) ≤ 0 → s.params.lead ≤ 20000 → 100 ≤ p → p ≤ 1000000 →
            e.commitPoint = e.windowStart - BitVec.ofNat 32 s.params.lead → (advanced.commitWhileDue e.tag).Follows t)

/-- A chain of immediate commits goes on until the commit point of the occurrence held lies in the future (R28, R106, R107), with no commit
of another entry in between (the model's choice, notes/assumptions/38). -/
def Obligations.CommitChain : Prop :=
  ∀ (s : State) (e : Entry), s.findEntry e.tag = some e → s.params.lead ≤ 20000 →
    e.commitPoint = e.windowStart - BitVec.ofNat 32 s.params.lead → (∀ p, e.request.period = some p → 100 ≤ p ∧ p ≤ 1000000) →
    (e.state = .waiting → s.distance e.commitPoint ≤ 0 → s.commitWhileDue e.tag = (s.commit e).commitWhileDue e.tag) ∧
    (e.state ≠ .waiting ∨ 0 < s.distance e.commitPoint → s.commitWhileDue e.tag = s)

/-- The decision of a commit (R97, R100 to R103): in JOINING all but CRITICAL are skipped; otherwise the occurrence is granted at the
earliest start in its slack where the full duration meets no blocking guarded interval; failing that, clipped at the earliest start where
min duration fits, to the greatest length that fits; failing that, skipped. The blocking intervals are those of the occurrences of CT that
are not past, within their remaining count, in spectral conflict, stronger, and meeting the own interval (R73, R81 to
R83, R85, R87, R99); distances do not wrap (DEDUCED, notes/assumptions/18). -/
def Obligations.EarliestPlacement : Prop :=
  (∀ (s : State) (e : Entry), s.part = .joining → e.effClass ≠ .critical → s.decide e = .skipJoining) ∧
  (∀ (s : State) (e : Entry), s.part ≠ .joining ∨ e.effClass = .critical →
    s.decide e = place (blockedPieces (s.blocking e.activity
        (s.distance e.windowStart, s.distance e.windowStart + (e.request.duration + e.request.slack : Nat))))
      (s.distance e.windowStart) e.request.duration e.request.slack e.request.minDuration) ∧
  (∀ (guarded : List Interval) (ws : Int) (duration slack : Nat) (least : Option Nat), (∀ g ∈ guarded, g.1 < g.2) → 0 < duration →
    (∀ m, least = some m → 0 < m ∧ m ≤ duration) →
    let inSlack (t : Int) : Prop := ws ≤ t ∧ t ≤ ws + (slack : Int)
    let earliest (t : Int) (length : Nat) : Prop :=
      inSlack t ∧ missesAll guarded t length ∧ ∀ u, inSlack u → u < t → ¬ missesAll guarded u length
    let nowhere (length : Nat) : Prop := ∀ u, inSlack u → ¬ missesAll guarded u length
    (∀ t length, place (blockedPieces guarded) ws duration slack least = .grant t length ↔ length = duration ∧ earliest t duration) ∧
    (∀ t length, place (blockedPieces guarded) ws duration slack least = .clip t length ↔
      nowhere duration ∧ ∃ m, least = some m ∧ earliest t m ∧ m ≤ length ∧ missesAll guarded t length ∧
        ¬ missesAll guarded t (length + 1)) ∧
    (place (blockedPieces guarded) ws duration slack least = .skipStrongerPeer ↔
      nowhere duration ∧ ∀ m, least = some m → nowhere m)) ∧
  ∀ (s : State) (x : Activity) (own : Interval),
    (∀ g : Interval, g ∈ s.blocking x own ↔ ∃ c ∈ s.ct, g ∈ s.blockingOf x own c) ∧
    ∀ (c : ClaimEntry) (r : PeerRecord), s.findPeer c.station = some r → -3200 ≤ r.drift → r.drift ≤ 3200 →
      (∀ p, c.period = some p → 100 ≤ p) → (c.period = none → c.remaining = some 1) →
      ∀ g : Interval, g ∈ s.blockingOf x own c ↔
        spectralConflict s.profile x c = true ∧
        Rank.stronger ⟨c.cls, r.credit, c.station⟩ ⟨x.cls, s.pe.rankingCredit, s.station⟩ = true ∧
        ∃ j : Nat, (∀ n, c.remaining = some n → j < n) ∧
          let occupied := c.occupied r.drift (s.marginRate r) j
          let anchor := s.distance c.anchorLocal
          0 < anchor + occupied.2 ∧
            g = (anchor + occupied.1 - (s.profile.guardTime : Int), anchor + occupied.2 + (s.profile.guardTime : Int)) ∧
            own.1 < own.2 ∧ own.1 < g.2 ∧ g.1 < own.2

/-- The blocked pieces are the union of the guarded intervals, as maximal half-open intervals, earliest first, with a gap between any two
(R99). -/
def Obligations.BlockedPiecesUnion : Prop :=
  ∀ guarded : List Interval, (∀ g ∈ guarded, g.1 < g.2) →
    (∀ x : Int, (∃ p ∈ blockedPieces guarded, p.1 ≤ x ∧ x < p.2) ↔ ∃ g ∈ guarded, g.1 ≤ x ∧ x < g.2) ∧
    (∀ p ∈ blockedPieces guarded, p.1 < p.2) ∧ (blockedPieces guarded).Pairwise fun p q => p.2 < q.1

/-- PLACED_START opens the window of a COMMITTED entry; PLACED_END closes that of an ACTIVE one, whose occurrence ends: the entry leaves with
REQ_END DONE and its queued CLAIM, or advances, and a next commit point not in the future is committed at once (R26, R27, R28, R35, R106,
R119), before another entry's that is due (the model's choice, notes/assumptions/38). JOINING_END enters RUNNING (R95, R96); that PR keeps
the first FRESH start mark of the JOINING then is the model's choice (notes/assumptions/31). -/
def Obligations.WindowsAndJoining : Prop :=
  (∀ (tag : Tag) (e : Entry) (p : Placement) (s : State), s.working = true → s.findEntry tag = some e → e.placement = some p →
    (∀ x ∈ s.book, x.tag = tag → x = e) →
    (e.state = .committed → s.distance p.start ≤ 0 → ∃ t, exec (.placedStart tag) s = .next t ∧ State.Follows
      { s with book := s.book.map fun x => if x.tag = tag then { e with state := .active, stage := .active } else x } t) ∧
    (e.state = .active → s.distance (later p.start p.length) ≤ 0 → ∃ t, exec (.placedEnd tag) s = .next t ∧
      (e.request.period = none ∨ e.request.count ≠ 0 ∧ e.request.count ≤ e.index.toNat + 1 → State.Follows
        { s.offerNotice (.reqEnd tag .done e.stage (e.index + 1) e.counters) with
          book := s.book.filter (·.tag ≠ tag)
          lc := { s.lc with queue := s.lc.queue.filter (·.ref ≠ .claim tag) } } t) ∧
      ∀ period, e.request.period = some period → (e.request.count = 0 ∨ e.index.toNat + 1 < e.request.count) →
        let ws := later e.windowStart period
        let next := { e with
          index := e.index + 1
          windowStart := ws
          commitPoint := ws - BitVec.ofNat 32 s.params.lead
          state := .waiting
          placement := none }
        let advanced : State := { s with book := s.book.map fun x => if x.tag = tag then next else x }
        (0 < s.distance next.commitPoint → advanced.Follows t) ∧
          (s.distance next.commitPoint ≤ 0 → (advanced.commitWhileDue tag).Follows t))) ∧
  ∀ (s : State) (joiningEnd : Time), s.working = true → s.pe.joining = .joining → s.pe.joiningEnd = some joiningEnd →
    s.distance joiningEnd ≤ 0 → ∃ t, exec .joiningEnd s = .next t ∧
      State.Follows { s with pe := { s.pe with joining := .running, joiningStart := none, joiningEnd := none } } t

/-- The late test takes every standing entry in book order, and one without a COMMITTED or ACTIVE placement stands (R108, R112); that the
immediate commits of one come before the next is tested is the model's choice (notes/assumptions/39). The late rule for a placement with a
late blocking occurrence (R109 to R111): with cut point `a`, a COMMITTED placement is cut or retracted; an ACTIVE one is cut, ends now, or
runs on as a late overlap. -/
def Obligations.LateRule : Prop :=
  (∀ (c : ClaimEntry) (s : State), s.lateTest c = (s.bookOrder.map Entry.tag).foldl (fun u tag => State.lateTestOne c u tag) s) ∧
  (∀ (c : ClaimEntry) (s : State) (tag : Tag),
    (∀ e, s.findEntry tag = some e → e.placement = none ∨ e.state = .waiting ∨ e.state = .retiring) → State.lateTestOne c s tag = s) ∧
  ∀ (c : ClaimEntry) (s : State) (e : Entry) (p : Placement), s.findEntry e.tag = some e → e.placement = some p →
    e.state = .committed ∨ e.state = .active → (∀ x ∈ s.book, x.tag = e.tag → x = e) →
    let start := s.distance p.start
    let begins := if e.state = .active then max start 0 else start
    let late := s.blockingOf e.activity (begins, start + (p.length : Int)) c
    let enough (a : Int) : Prop := ∃ m, e.request.minDuration = some m ∧ (m : Int) ≤ a - start
    let cut (length : Nat) : State := State.offerNotice
      { s with book := s.book.map fun x => if x.tag = e.tag then
          { e with
            placement := some { p with length := length }
            counters := { e.counters with cut := e.counters.cut + 1 } }
          else x } (.occChange e.tag e.index .cut length)
    (late = [] → State.lateTestOne c s e.tag = s) ∧
    ∀ a : Int, (∃ g ∈ late, g.1 = a) → (∀ g ∈ late, a ≤ g.1) →
      (e.state = .committed → enough a → State.lateTestOne c s e.tag = cut (a - start).toNat) ∧
      (e.state = .committed → ¬ enough a → State.lateTestOne c s e.tag = ((State.offerNotice
        { s with book := s.book.map fun x => if x.tag = e.tag then
            { e with placement := none, counters := { e.counters with retracted := e.counters.retracted + 1 } } else x }
          (.occChange e.tag e.index .retract 0)).endOccurrence e.tag)) ∧
      (e.state = .active → enough a → 0 < a → State.lateTestOne c s e.tag = cut (a - start).toNat) ∧
      (e.state = .active → enough a → a ≤ 0 → State.lateTestOne c s e.tag = (cut (-start).toNat).endOccurrence e.tag) ∧
      (e.state = .active → ¬ enough a → State.lateTestOne c s e.tag = State.raiseAlarm
        { s with
          book := s.book.map fun x => if x.tag = e.tag then
            { e with counters := { e.counters with lateOverlaps := e.counters.lateOverlaps + 1 } } else x
          au := { s.au with
            lateOverlaps := if s.au.lateOverlaps = 65535 then 65535 else s.au.lateOverlaps + 1 } } .lateOverlap)

/-! ## The inputs -/

/-- ACT_LEVEL_TAKEN takes the new level after d + 1 samples, and COUNT_DEADLINE counts the stretch and raises GRANT_OVERRUN:
the stretch is COUNTED, and the deadline absent, unless the hold flag that the raise sets ends it (R133, R140, R141, R142, R189). That the
stretch start is kept in COUNTED is the model's choice (notes/assumptions/22). -/
def Obligations.ActAndCount : Prop :=
  (∀ s : State, s.working = true → s.am.act.running = true → s.params.debounce + 1 ≤ s.am.act.samples →
    ∃ t, exec .actLevelTaken s = .next t ∧ State.Follows
      { s with am := { s.am with act := { s.am.act with level := !s.am.act.level, samples := 0 } } } t) ∧
  ∀ (s : State) (deadline : Time), s.working = true → s.am.overrun = .timing → s.am.countDeadline = some deadline →
    s.distance deadline ≤ 0 →
    let u : State := State.raiseAlarm
      { s with
        am := { s.am with overrun := .counted, countDeadline := none }
        au := { s.au with overruns := if s.au.overruns = 65535 then 65535 else s.au.overruns + 1 } } .grantOverrun
    ∃ t, exec .countDeadline s = .next t ∧ u.Follows t ∧ t.am =
      { s.am with
        overrun := if u.inStretch then .counted else .clear
        stretchStart := if u.inStretch then s.am.stretchStart else none
        countDeadline := none }

/-- A fast request (R123, R125, R126, R127, R128): refused without a test while not enabled or in JOINING; otherwise granted until the earlier
of F and the earliest blocking guarded start, when that leaves the fast minimum. A grant ends at RQ low or at its fast end. -/
def Obligations.FastRequests : Prop :=
  (∀ (pri : BitVec 2) (s : State), s.working = true → s.gd.rq.running = true → s.params.debounce + 1 ≤ s.gd.rq.samples →
    s.gd.rq.level = false →
    let span := s.gd.fastSpan.getD ⟨2400, 2400⟩
    let activity : Activity :=
      { cls := PriorityClass.ofNumber pri.toNat, dir := .txrx, power := s.gd.fastPower.getD 0, low := span.low, high := span.high }
    let longest : Int := s.profile.fastMax
    let blocking := s.blocking activity (0, longest)
    let made (f : FastState) : State :=
      { s with
        pins := { s.pins with pri := pri }
        gd := { s.gd with rq := { s.gd.rq with level := true, samples := 0 }, fast := f } }
    ∃ t, exec (.rqRise pri) s = .next t ∧
      (s.profile.fastEnable = false ∨ s.part = .joining → (made .spent).Follows t) ∧
      (s.profile.fastEnable = true → s.part ≠ .joining → ∀ e : Int, e ≤ longest → (∀ g ∈ blocking, e ≤ g.1) →
        (e = longest ∨ ∃ g ∈ blocking, g.1 = e) →
        ((s.profile.fastMin : Int) ≤ e → (made (.inForce s.now (s.timeAt e))).Follows t) ∧
        (e < (s.profile.fastMin : Int) → (made .spent).Follows t))) ∧
  (∀ s : State, s.working = true → s.gd.rq.running = true → s.params.debounce + 1 ≤ s.gd.rq.samples → s.gd.rq.level = true →
    ∃ t, exec .rqFall s = .next t ∧
      State.Follows { s with gd := { s.gd with rq := { s.gd.rq with level := false, samples := 0 }, fast := .idle } } t) ∧
  ∀ (s : State) (began fastEnd : Time), s.working = true → s.gd.fast = .inForce began fastEnd → s.distance fastEnd ≤ 0 →
    ∃ t, exec .fastEnd s = .next t ∧ State.Follows { s with gd := { s.gd with fast := .spent } } t

/-! ## Peers and their claims -/

/-- The deadlines of a peer record: LIVE enters QUIET, with its claims projected afresh; LIVE or QUIET enters LOST, and its claims are
dropped (R41, R42, R71). That a QUIET record holds no QUIET deadline is DEDUCED (notes/assumptions/28). That entry to LOST keeps the last
announced live claim count is the model's choice (notes/assumptions/41). -/
def Obligations.PeerDeadlines : Prop :=
  ∀ (st : Station) (r : PeerRecord) (deadline : Time) (s : State), s.working = true → s.findPeer st = some r →
    s.distance deadline ≤ 0 →
    let setTo (f : PeerRecord) : List PeerRecord := s.pr.records.map fun x => if x.station = st then f else x
    ((s.pr.records.map (·.station)).Nodup → r.state = .live → r.quietDeadline = some deadline →
      let quiet : State := { s with pr := { s.pr with records := setTo { r with state := .quiet, quietDeadline := none } } }
      ∃ t, exec (.quietDeadline st) s = .next t ∧
        State.Follows { quiet with ct := (quiet.recomputeExpiry fun c => c.station == st).ct } t) ∧
    ((s.pr.records.map (·.station)).Nodup → r.state = .live ∨ r.state = .quiet → r.lostDeadline = some deadline →
      ∃ t, exec (.lostDeadline st) s = .next t ∧ State.Follows
        { s with
          pr := { s.pr with records := setTo { r with
            state := .lost, quietDeadline := none, lostDeadline := none, lastOffset := none, offsetLatch := none, driftCount := 0
            mismatch := 0 } }
          ct := s.ct.filter (·.station ≠ st) } t)

/-- The deadlines of a claim entry remove it and nothing else (R70, R71); the acknowledge deadline raises CLEAR_UNACKED (R165). -/
def Obligations.ClaimAndClearDeadlines : Prop :=
  (∀ (st : Station) (tag : Tag) (c : ClaimEntry) (s : State), s.working = true → s.findClaim st tag = some c →
    (s.distance c.lease ≤ 0 →
      exec (.leaseDeadline st tag) s = .next { s with ct := s.ct.filter fun x => ¬ (x.station = st ∧ x.tag = tag) }) ∧
    ∀ expiry, c.expiry = some expiry → s.distance expiry ≤ 0 →
      exec (.expiryPoint st tag) s = .next { s with ct := s.ct.filter fun x => ¬ (x.station = st ∧ x.tag = tag) }) ∧
  ∀ (s : State) (deadline : Time), s.working = true → s.lc.ack = .awaiting deadline → s.distance deadline ≤ 0 →
    ∃ t, exec .acknowledgeDeadline s = .next t ∧
      (State.raiseAlarm { s with lc := { s.lc with ack := .expired } } .clearUnacked).Follows t

/-- A BEACON of another station sets its record, whatever its state was: LIVE, deadlines by the epoch length it carries, its fields, and
the offset sample judged against the run so far; every other record and the book stand (R40, R41, R50, R51, R52). From UNHEARD or LOST, and
at a restart, every live claim is asked for again (R43); a restart drops the station's claims and ends the run (R55, R72); leaving QUIET,
and a change of D or of the sample count, compute its expiry points afresh (R71); a plain beacon is checked against the claims held, and
the second mismatch in a row raises VIEW_GAP (R56). The frame is counted as good (R159, R160). The instants of the two computations are
DEDUCED (notes/assumptions/21). -/
def Obligations.BeaconReceived : Prop :=
  ∀ (st : Station) (b : BeaconBody) (r : PeerRecord) (latch : Time) (s : State), s.receiving = true → st ≠ s.station →
    s.lc.latch = some latch → s.findPeer st = some r →
    let epochLength := clampNat 4 64 b.epochUnits.toNat * 1024
    let restart : Bool := b.fresh = true ∧ r.lastFresh = some false
    let run := if restart then { r with lastOffset := none, offsetLatch := none, driftCount := 0, mismatch := 0 } else r
    let judged := run.takeOffset (b.timestamp - latch).toInt latch
    let setTo (x : PeerRecord) : Peers := { s.pr with records := s.pr.records.map fun y => if y.station = st then x else y }
    let afresh (u : State) : List ClaimEntry := (u.recomputeExpiry fun c => c.station == st).ct
    let heard := if r.state = .quiet then afresh { s with pr := setTo { r with state := .live } } else s.ct
    let sampled := if judged.drift = r.drift ∧ judged.driftCount = r.driftCount then heard
      else afresh { s with ct := heard, pr := setTo { judged with state := .live } }
    let claims := if restart then s.ct.filter (·.station ≠ st) else sampled
    let held := (claims.filter (·.station = st)).length
    let liveTags := (s.bookOrder.filter fun e => e.announced && e.standing).map Entry.tag
    ∃ t r', exec (.beaconReceived st b) s = .next t ∧ t.findPeer st = some r' ∧
      r'.state = .live ∧ r'.lastHeard = some latch ∧ r'.quietDeadline = some (later latch (3 * epochLength)) ∧
      r'.lostDeadline = some (later latch (10 * epochLength)) ∧ r'.senderEpoch = some epochLength ∧
      r'.credit = max (-1000) (min 1000 b.credit.toInt) ∧ r'.senderHold = some b.hold ∧
      r'.senderProfile = some (if b.profileB then .b else .a) ∧ r'.lastLiveCount = some b.liveCount.toNat ∧
      r'.lastFresh = some b.fresh ∧
      r'.lastOffset = judged.lastOffset ∧ r'.offsetLatch = judged.offsetLatch ∧ r'.drift = judged.drift ∧
      r'.driftCount = judged.driftCount ∧ r'.jumps = judged.jumps ∧
      r'.mismatch = (if b.fresh = true ∨ b.liveCount.toNat = held then 0 else if run.mismatch = 0 then 1 else run.mismatch) ∧
      Alarm.viewGap.inSet t.au.flags =
        (Alarm.viewGap.inSet s.au.flags || (!b.fresh && b.liveCount.toNat != held && run.mismatch != 0)) ∧
      (∀ st', st' ≠ st → t.findPeer st' = s.findPeer st') ∧ t.ct = claims ∧
      t.lc.queue = (if r.state = .unheard ∨ r.state = .lost ∨ restart = true then s.askClaims liveTags else s).lc.queue ∧
      t.lc.receiver = .waitIdle 7 ∧ t.lc.latch = none ∧
      t.lc.goodRun = (if s.lc.goodRun < 63 then s.lc.goodRun + 1 else 0) ∧
      t.lc.badCount = (if s.lc.goodRun < 63 then s.lc.badCount else 0) ∧
      Alarm.lineNoisy.inSet t.au.flags = (Alarm.lineNoisy.inSet s.au.flags && decide (s.lc.goodRun < 63)) ∧
      t.tb = s.tb ∧ t.book = s.book ∧ t.pe = s.pe ∧ t.ps = s.ps ∧ t.params = s.params ∧ t.station = s.station

/-- A CLAIM or SHORT CLAIM of another station (R40, R43, R66, R67, R68, R70, R71, R108): its record becomes LIVE, with a catch-up from UNHEARD
or LOST and expiry points afresh from QUIET; a frame out of range changes no claim; a good one sets the entry of its station and tag, with
its lease and expiry, and PE makes its late test; one that has already ended is removed. A seventeenth entry of a station evicts the one
announced earliest, and then the one of the lowest tag, and raises VIEW_GAP; every other entry stands. The frame is counted as good (R159,
R160). -/
def Obligations.ClaimReceived : Prop :=
  ∀ (st : Station) (short : Bool) (b : ClaimBody) (r : PeerRecord) (latch : Time) (s : State), s.receiving = true →
    st ≠ s.station → s.lc.latch = some latch → s.findPeer st = some r →
    let heard : State := { s with pr := { s.pr with records := s.pr.records.map fun x => if x.station = st then
      { x with
        state := .live
        lastHeard := some latch
        quietDeadline := some (later latch (3 * x.senderEpoch.getD s.tb.epochLength))
        lostDeadline := some (later latch (10 * x.senderEpoch.getD s.tb.epochLength)) } else x } }
    let liveTags := (s.bookOrder.filter fun e => e.announced && e.standing).map Entry.tag
    let known := if r.state = .unheard ∨ r.state = .lost then heard.askClaims liveTags
      else if r.state = .quiet then heard.recomputeExpiry fun c => c.station == st else heard
    let room := (known.claimsOf st).length < 16 ∨ (known.findClaim st b.tag).isSome = true
    ∃ t, exec (.claimReceived st short b) s = .next t ∧ t.pr = heard.pr ∧ t.lc.receiver = .waitIdle 7 ∧
      t.lc.goodRun = (if s.lc.goodRun < 63 then s.lc.goodRun + 1 else 0) ∧
      t.lc.badCount = (if s.lc.goodRun < 63 then s.lc.badCount else 0) ∧
      Alarm.lineNoisy.inSet t.au.flags = (Alarm.lineNoisy.inSet s.au.flags && decide (s.lc.goodRun < 63)) ∧
      (takeClaim st b latch = none → t.ct = known.ct ∧ t.book = s.book ∧ t.lc.queue = known.lc.queue) ∧
      ∀ c, takeClaim st b latch = some c →
        let leased := { c with lease := later latch (10 * r.senderEpoch.getD s.tb.epochLength) }
        let entry := { leased with expiry := heard.expiryOf leased }
        let tested := (known.putClaim entry).lateTest entry
        (heard.dueSome entry.expiry = false → t.findClaim st b.tag = some entry) ∧
        (heard.dueSome entry.expiry = true → t.findClaim st b.tag = none) ∧
        t.book = tested.book ∧ t.lc.queue = tested.lc.queue ∧
        (room → Alarm.viewGap.inSet t.au.flags = Alarm.viewGap.inSet s.au.flags ∧
          ∀ st' tag', (st' ≠ st ∨ tag' ≠ b.tag) → t.findClaim st' tag' = known.findClaim st' tag') ∧
        (¬ room → ∀ old ∈ known.claimsOf st,
          (∀ d ∈ known.claimsOf st, s.distance old.lastAnnouncement < s.distance d.lastAnnouncement ∨
            s.distance old.lastAnnouncement = s.distance d.lastAnnouncement ∧ old.tag.toNat ≤ d.tag.toNat) →
          Alarm.viewGap.inSet t.au.flags = true ∧ ∀ st' tag', (st' ≠ st ∨ tag' ≠ b.tag) →
            t.findClaim st' tag' = if st' = st ∧ tag' = old.tag then none else known.findClaim st' tag')

/-- A WITHDRAW of another station removes the claim entry of its station and tag, after its record has become LIVE with a catch-up from
UNHEARD or LOST and expiry points afresh from QUIET (R40, R43, R69, R71), and counts as a good frame (R159, R160); a frame of the own
number is counted as a clash (R161); a bad frame is counted, and the eighth raises LINE_NOISY (R159, R160). That the receiver counts from 0
after a bad frame is DEDUCED (notes/assumptions/23). The events of the line up to it are followed first, and it is judged on a recessive
line, but for a CRC failure, which is judged at once: its last bit may be dominant for 3 µs of local time (DEDUCED, notes/assumptions/44),
and its stretch then goes on (R159, R162). No frame is taken or judged while a line clear is due to be detected (R162). -/
def Obligations.OtherFrames : Prop :=
  (∀ (st : Station) (tag : Tag) (r : PeerRecord) (latch : Time) (s : State), s.receiving = true → st ≠ s.station →
    s.lc.latch = some latch → s.findPeer st = some r →
    let heard : State := { s with pr := { s.pr with records := s.pr.records.map fun x => if x.station = st then
      { x with
        state := .live
        lastHeard := some latch
        quietDeadline := some (later latch (3 * x.senderEpoch.getD s.tb.epochLength))
        lostDeadline := some (later latch (10 * x.senderEpoch.getD s.tb.epochLength)) } else x } }
    let liveTags := (s.bookOrder.filter fun e => e.announced && e.standing).map Entry.tag
    let known := if r.state = .unheard ∨ r.state = .lost then heard.askClaims liveTags
      else if r.state = .quiet then heard.recomputeExpiry fun c => c.station == st else heard
    ∃ t, exec (.withdrawReceived st tag) s = .next t ∧ t.pr = heard.pr ∧
      t.ct = known.ct.filter (fun c => ¬ (c.station = st ∧ c.tag = tag)) ∧ t.book = s.book ∧ t.lc.receiver = .waitIdle 7 ∧
      t.lc.goodRun = (if s.lc.goodRun < 63 then s.lc.goodRun + 1 else 0) ∧
      t.lc.badCount = (if s.lc.goodRun < 63 then s.lc.badCount else 0) ∧
      Alarm.lineNoisy.inSet t.au.flags = (Alarm.lineNoisy.inSet s.au.flags && decide (s.lc.goodRun < 63)) ∧
      t.lc.queue = known.lc.queue) ∧
  (∀ s : State, s.receiving = true →
    let clashed := State.raiseAlarm
      { s with au := { s.au with clashes := if s.au.clashes = 65535 then 65535 else s.au.clashes + 1 } } .stationClash
    ∃ t, exec .ownNumberFrame s = .next t ∧
      (s.lc.goodRun < 63 → State.Follows
        { clashed with lc := { s.lc with goodRun := s.lc.goodRun + 1, receiver := .waitIdle 7, latch := none, stretch := none } } t) ∧
      (63 ≤ s.lc.goodRun → ∃ u : State, u.Follows t ∧
        u = { clashed with
          lc := { s.lc with goodRun := 0, badCount := 0, receiver := .waitIdle 7, latch := none, stretch := none }, au := u.au } ∧
        u.au = { clashed.au with flags := u.au.flags, hold := u.au.holdRule } ∧
        ∀ a : Alarm, a.inSet u.au.flags = (a.inSet clashed.au.flags && a != .lineNoisy))) ∧
  (∀ (s : State) (start : Time), s.lc.clearDetected = false → s.lc.stretch = some start → s.distance (later start 32) ≤ 0 →
    s.receiving = false) ∧
  (∀ (s : State) (line : List LineEvent) (cause : BadFrameCause), s.receiving = false → exec (.badFrame line cause) s = .next s) ∧
  ∀ (s : State) (line : List LineEvent) (cause : BadFrameCause),
    let l := line.foldl (LineController.follow s.now) s.lc
    let counted : State :=
      { s with
        lc := { l with
          goodRun := 0, badCount := min 8 (s.lc.badCount + 1), receiver := .waitIdle 0, latch := none }
        au := { s.au with rxErrors := if s.au.rxErrors = 65535 then 65535 else s.au.rxErrors + 1 } }
    (l.stretch.isSome = true → cause ≠ .crc → exec (.badFrame line cause) s = .next s) ∧
    (∀ start, l.stretch = some start → s.distance (later start 3) < 0 → exec (.badFrame line cause) s = .next s) ∧
    (s.receiving = true → s.mayFollow line = true →
      l.stretch = none ∨ cause = .crc ∧ (∃ start, l.stretch = some start ∧ 0 ≤ s.distance (later start 3)) →
      ∃ t, exec (.badFrame line cause) s = .next t ∧ (s.lc.badCount < 7 → counted.Follows t) ∧
        (7 ≤ s.lc.badCount → (counted.raiseAlarm .lineNoisy).Follows t))

/-- The judgement of an offset sample (R52, R53, R54): the first of a run is stored; a step over too short or too long a time ends the run; a
jump is counted and ends it; otherwise the clamped sample is filtered in, and D moves between its old value and the sample. -/
def Obligations.OffsetSample : Prop :=
  ∀ (r : PeerRecord) (o : Int) (latch : Time),
    let t := r.takeOffset o latch
    t.lastOffset = some o ∧ t.offsetLatch = some latch ∧
    (r.lastOffset = none → t = { r with lastOffset := some o, offsetLatch := some latch }) ∧
    ∀ o' latch', r.lastOffset = some o' → r.offsetLatch = some latch' →
      let delta := (latch - latch').toNat
      let diff := (BitVec.ofInt 32 (o - o')).toInt
      let inTime := 2048 ≤ delta ∧ delta ≤ 4194304
      let jump := delta < diff.natAbs * 1000
      (¬ inTime → t = { r with lastOffset := some o, offsetLatch := some latch, driftCount := 0 }) ∧
      (inTime → jump → t = { r with
        lastOffset := some o
        offsetLatch := some latch
        driftCount := 0
        jumps := if r.jumps = 65535 then 65535 else r.jumps + 1 }) ∧
      (inTime → ¬ jump → ∃ sample : Int, sample = max (-3200) (min 3200 (roundDiv (diff * 16000000) delta)) ∧
        t = { r with lastOffset := some o, offsetLatch := some latch, drift := t.drift, driftCount := min 8 (r.driftCount + 1) } ∧
        (r.driftCount = 0 → t.drift = sample) ∧
        (r.driftCount ≠ 0 → min r.drift sample ≤ t.drift ∧ t.drift ≤ max r.drift sample ∧
          4 * (t.drift - r.drift).natAbs ≤ (sample - r.drift).natAbs ∧
          (sample - r.drift).natAbs < 4 * ((t.drift - r.drift).natAbs + 1)))

/-- The projection of peer occurrences (chapter 0, Arithmetic; R71, R73, R74, R75): P(e) rounds e × D / 16,000,000 to the nearest integer,
halves away from zero; m(e) is 4 plus the least integer not below |e| × U / 1,000,000; U is 200, 50 or 10 by the monitor and the sender's
record; an occupied interval runs from the projected start less its margin to the projected end plus its margin; the end of the last one is
the expiry point, when it does not lie beyond the lease. Computing afresh gives each entry chosen its expiry point, and removes it when that
point is due; every other entry and all else stand. -/
def Obligations.ProjectionRounding : Prop :=
  (∀ (s : State) (chosen : ClaimEntry → Bool), (∀ c t, chosen { c with expiry := t } = chosen c) →
    let afresh (c : ClaimEntry) : Option ClaimEntry := match chosen c, s.expiryOf c with
      | true, none => some { c with expiry := none }
      | true, some t => if s.distance t ≤ 0 then none else some { c with expiry := some t }
      | false, _ => some c
    s.recomputeExpiry chosen = { s with ct := s.ct.filterMap afresh }) ∧
  (∀ drift e : Int,
    let rounded := 16000000 * (e - projected drift e)
    2 * (rounded - e * drift).natAbs ≤ 16000000 ∧
      (2 * (rounded - e * drift).natAbs = 16000000 → (e * drift).natAbs < rounded.natAbs)) ∧
  (∀ drift e : Int, projected drift (-e) = -projected drift e) ∧
  (∀ (rate : Nat) (e : Int), e.natAbs * rate ≤ 1000000 * (margin rate e - 4).toNat ∧ 4 ≤ margin rate e ∧
    ∀ m : Nat, e.natAbs * rate ≤ 1000000 * m → margin rate e ≤ 4 + (m : Int)) ∧
  (∀ (s : State) (r : PeerRecord),
    (s.tb.monitor = .clockSuspect → s.marginRate r = 200) ∧
    (s.tb.monitor ≠ .clockSuspect → r.driftCount < 3 ∨ r.state = .quiet → s.marginRate r = 50) ∧
    (s.tb.monitor ≠ .clockSuspect → 3 ≤ r.driftCount → r.state ≠ .quiet → s.marginRate r = 10)) ∧
  (∀ (c : ClaimEntry) (drift : Int) (rate j : Nat),
    c.occupied drift rate j =
      (let start := c.anchorOffset + (j : Int) * ((c.period.getD 0 : Nat) : Int)
       (projected drift start - margin rate start,
        projected drift (start + (c.window : Int)) + margin rate (start + (c.window : Int))))) ∧
  ∀ (s : State) (c : ClaimEntry) (r : PeerRecord) (n : Nat), s.findPeer c.station = some r → 1 ≤ n →
    let e : Int := c.anchorOffset + ((n : Int) - 1) * ((c.period.getD 0 : Nat) : Int) + (c.window : Int)
    let q : Int := projected r.drift e + margin (s.marginRate r) e
    (c.remaining = none → s.expiryOf c = none) ∧
    (c.remaining = some n → q ≤ ((c.lease - c.anchorLocal).toNat : Int) →
      s.expiryOf c = some (c.anchorLocal + BitVec.ofInt 32 q)) ∧
    (c.remaining = some n → ((c.lease - c.anchorLocal).toNat : Int) < q → s.expiryOf c = none)

/-! ## The line -/

/-- The asks and the head of the transmit queue (R45, R59, R62, R65, R151, R155): a CLAIM waits once, replaces a WITHDRAW of its tag, and
is not asked for while held; a WITHDRAW replaces a frame queued for its tag; a BEACON replaces an unsent one; an ask that finds 17 frames
discards the earliest orphaned WITHDRAW; the head is first by key kind, WITHDRAW, SHORT CLAIM, CLAIM, BEACON, then by queue time, and a
queued CLAIM is a SHORT CLAIM while the commit point of its entry is past. Asks for several tags are made one after another; a queue that
is not empty has a head. -/
def Obligations.TransmitQueue : Prop :=
  (∀ s : State, s.askClaims [] = s ∧ ∀ tag tags, s.askClaims (tag :: tags) = (s.askClaim tag).askClaims tags) ∧
  (∀ s : State, (s.headFrame = none ↔ s.lc.queue = []) ∧ ∀ tag, s.findEntry tag = none → s.askClaim tag = s) ∧
  (∀ (s : State) (ref : FrameRef), s.lc.queue.length < 17 →
    s.enqueue ref = { s with lc := { s.lc with queue := s.lc.queue ++ [⟨ref, s.lc.nextAsk⟩], nextAsk := s.lc.nextAsk + 1 } }) ∧
  (∀ (s : State) (ref : FrameRef) (f : QueuedFrame) (tag : Tag), 17 ≤ s.lc.queue.length → f ∈ s.lc.queue → f.ref = .withdraw tag →
    s.findEntry tag = none →
    (∀ g ∈ s.lc.queue, ∀ tag', g.ref = .withdraw tag' → s.findEntry tag' = none → f.asked ≤ g.asked ∧ (g ≠ f → f.asked ≠ g.asked)) →
    s.enqueue ref = { s with lc := { s.lc with
      queue := s.lc.queue.filter (·.ref ≠ .withdraw tag) ++ [⟨ref, s.lc.nextAsk⟩], nextAsk := s.lc.nextAsk + 1 } }) ∧
  (∀ (s : State) (tag : Tag), s.askWithdraw tag = State.enqueue
    { s with lc := { s.lc with queue := s.lc.queue.filter fun f => f.ref ≠ .claim tag ∧ f.ref ≠ .withdraw tag } } (.withdraw tag)) ∧
  (∀ (s : State) (tag : Tag) (e : Entry), s.findEntry tag = some e →
    (e.state = .retiring ∨ e.held = true ∨ (∃ f ∈ s.lc.queue, f.ref = .claim tag) → s.askClaim tag = s) ∧
    (e.state ≠ .retiring → e.held = false → (∀ f ∈ s.lc.queue, f.ref ≠ .claim tag) →
      s.askClaim tag =
        State.enqueue { s with lc := { s.lc with queue := s.lc.queue.filter (·.ref ≠ .withdraw tag) } } (.claim tag))) ∧
  (∀ s : State, s.askBeacon = State.enqueue { s with lc := { s.lc with queue := s.lc.queue.filter (·.ref ≠ .beacon) } } .beacon) ∧
  ∀ (s : State) (f : QueuedFrame), s.headFrame = some f →
    let kind (g : QueuedFrame) : Nat := match g.ref with
      | .withdraw _ => 0
      | .claim tag => if (s.findEntry tag).any fun e => decide (s.distance e.commitPoint < 0) then 1 else 2
      | .beacon => 3
    f ∈ s.lc.queue ∧ ∀ g ∈ s.lc.queue, kind f < kind g ∨ kind f = kind g ∧ f.asked ≤ g.asked

/-- LINE_IDLE, START_MARK and ARBITRATION_LOST (R5, R65, R147, R150, R151, R152, R162): the 11th consecutive recessive bit reaches line
idle, and any fewer do not; in JOINING and RUNNING the head frame contends, its key kind fixed then, a CLAIM's being SHORT CLAIM while the
commit point of its entry is past; a start mark, own or not, is latched, takes the receiver to FRAME and begins a dominant stretch; a lost
arbitration releases the line and leaves the queue. LINE_IDLE with the receiver in IDLE already is a later occasion to contend (DEDUCED,
notes/assumptions/11). -/
def Obligations.Contention : Prop :=
  let kind (s : State) (ref : FrameRef) : KeyKind := match ref with
    | .withdraw _ => .withdraw
    | .claim tag => if (s.findEntry tag).any fun e => decide (s.distance e.commitPoint < 0) then .shortClaim else .claim
    | .beacon => .beacon
  (∀ (n k : Nat), n < 11 →
    let events := lineEvents true (List.replicate k true)
    events = List.replicate k .recessiveBit ∧
    (n + k < 11 → events.foldl Receiver.follow (.waitIdle n) = .waitIdle (n + k)) ∧
    (11 ≤ n + k → events.foldl Receiver.follow (.waitIdle n) = .idle) ∧
    ∀ s : State, s.lc.receiver = .waitIdle n → n + k ≠ 11 → exec (.lineIdle events) s = .next s) ∧
  (∀ (s : State) (line : List LineEvent), s.lc.receiver = .frame → exec (.lineIdle line) s = .next s) ∧
  (∀ (s : State) (k : Nat), s.working = true → k ≤ 3 → s.lc.receiver = .idle ∨ (∃ n, n < 11 ∧ n + k = 11 ∧ s.lc.receiver = .waitIdle n) →
    s.lc.stretch = none → s.lc.clearDrive = none → s.lc.contending = none → s.lc.inTransmission = none →
    let reached := Instr.lineIdle (List.replicate k .recessiveBit)
    (s.joined = false ∨ s.lc.queue = [] → exec reached s = .next { s with lc := { s.lc with receiver := .idle } }) ∧
    ∀ f, s.joined = true → s.headFrame = some f → exec reached s = .next
      { s with lc := { s.lc with
        receiver := .frame, latch := some s.now, stretch := some s.now, contending := some ⟨f.ref, kind s f.ref⟩
        driver := .sending } }) ∧
  (∀ s : State, s.working = true → s.lc.receiver = .idle → s.lc.stretch = none → s.lc.clearDrive = none →
    s.lc.inTransmission = none →
    (s.lc.contending.isSome = true ∨ s.joined = false ∨ s.lc.queue = [] →
      exec .startMark s = .next { s with lc := { s.lc with receiver := .frame, latch := some s.now, stretch := some s.now } }) ∧
    ∀ f, s.lc.contending = none → s.joined = true → s.headFrame = some f → exec .startMark s = .next
      { s with lc := { s.lc with
        receiver := .frame, latch := some s.now, stretch := some s.now, contending := some ⟨f.ref, kind s f.ref⟩
        driver := .sending } }) ∧
  ∀ s : State, s.working = true → s.lc.contending.isSome = true → s.lc.receiver = .frame →
    exec .arbitrationLost s = .next { s with lc := { s.lc with contending := none, driver := .released } }

/-- OWN_START_MARK_REPORTED (R24, R33, R47, R48, R49, R64, R95, R152, R154): the frame leaves the queue and is in transmission as composed
at its latch; PE takes a beacon's credit, and the first FRESH one of the JOINING sets the joining start and end and releases the held
claims; a CLAIM announces its entry; a WITHDRAW lets a RETIRING entry leave. -/
def Obligations.OwnStartMark : Prop :=
  ∀ (s : State) (c : Contender) (latch : Time) (f : QueuedFrame), s.working = true → s.lc.receiver = .frame →
    s.lc.contending = some c → s.lc.latch = some latch → s.lc.queue.find? (·.ref == c.ref) = some f →
    let sent (body : FrameBody) : State :=
      { s with lc := { s.lc with
        queue := s.lc.queue.filter (·.ref ≠ c.ref)
        contending := none
        inTransmission := some ⟨f, latch, ⟨s.station, body⟩⟩ } }
    (c.ref = .beacon →
      let u := sent (.beacon
        { timestamp := latch
          credit := BitVec.ofInt 11 s.am.credit
          epochUnits := BitVec.ofNat 7 (s.tb.epochLength / 1024)
          liveCount := BitVec.ofNat 5 (s.book.countP fun e => e.announced && e.standing)
          fresh := s.pr.freshOwed
          hold := s.au.hold
          profileB := s.ps.inForce == some .b })
      (s.pr.freshOwed = false ∨ s.pe.joining ≠ .joining ∨ s.pr.firstFresh.isSome = true →
        exec .ownStartMarkReported s = .next { u with pe := { s.pe with rankingCredit := s.am.credit } }) ∧
      (s.pr.freshOwed = true → s.pe.joining = .joining → s.pr.firstFresh = none →
        let opened : State :=
          { u with
            pe := { s.pe with
              rankingCredit := s.am.credit
              joiningStart := some latch
              joiningEnd := some (later latch (2 * s.tb.epochLength)) }
            pr := { s.pr with firstFresh := some latch }
            book := s.book.map fun e => if e.standing then { e with held := false } else e }
        exec .ownStartMarkReported s = .next (opened.askClaims ((s.bookOrder.filter (·.held)).map Entry.tag)))) ∧
    (∀ tag e, c.ref = .claim tag → s.findEntry tag = some e → (∀ x ∈ s.book, x.tag = tag → x = e) →
      let count := match e.request.period with
        | none => 1
        | some _ => if e.request.count = 0 then 0 else e.request.count - e.index.toNat
      let u := sent (.claim (c.key == .shortClaim)
        { tag := tag
          cls := BitVec.ofNat 3 e.effClass.number
          dir := e.request.dir.code
          power := BitVec.ofNat 2 e.request.power
          low := BitVec.ofNat 13 (e.request.low - 2400)
          high := BitVec.ofNat 13 (e.request.high - 2400)
          window := BitVec.ofNat 17 (e.request.duration + e.request.slack)
          anchorOffset := BitVec.ofInt 23 (e.windowStart - latch).toInt
          period := BitVec.ofNat 20 (e.request.period.getD 0)
          remaining := BitVec.ofNat 16 count })
      exec .ownStartMarkReported s = .next { u with book := s.book.map fun x => if x.tag = tag then
        { e with announced := true, lastAnnounced := some s.tb.epochCount, stage := e.stage.raiseTo .announced } else x }) ∧
    ∀ tag, c.ref = .withdraw tag →
      (s.findEntry tag = none ∨ (∃ e, s.findEntry tag = some e ∧ e.state ≠ .retiring) →
        exec .ownStartMarkReported s = .next (sent (.withdraw tag))) ∧
      ∀ e, s.findEntry tag = some e → e.state = .retiring →
        exec .ownStartMarkReported s = .next { sent (.withdraw tag) with book := s.book.filter (·.tag ≠ tag) }

/-- FRAME_SENT releases the line, and a FRESH beacon sent clears fresh owed (R46, R150, R154). READBACK_MISMATCH and DRIVE_FAULT abandon
the frame, which goes back to the queue with its queue time unless the rules of R156 discard it; a contending frame stays queued; a drive
fault raises LINE_DRIVE_FAULT (R5, R156, R157, R158). The latch is discarded with the abandoned frame. That a returned BEACON keeps its
queue time is the model's choice (notes/assumptions/37). After the end mark of a frame sent, and at a bit read back recessive, no stretch
is timed (R154, R158, R162). That the receiver stays in FRAME with its latch after a drive fault at an own start mark at which the line never
fell is the model's choice (notes/assumptions/46). -/
def Obligations.OwnFrameEnds : Prop :=
  (∀ s : State, s.working = true → s.lc.contending.isSome = true → ∃ t, exec .driveFault s = .next t ∧
    (State.raiseAlarm { s with lc := { s.lc with contending := none, driver := .released, stretch := none } } .lineDriveFault).Follows t) ∧
  ∀ (s : State) (f : OwnFrame), s.working = true → s.lc.inTransmission = some f →
    let sent : State :=
      { s with lc := { s.lc with
        inTransmission := none, driver := .released, receiver := .waitIdle 7, latch := none, stretch := none } }
    let stopped : State := { s with lc := { s.lc with inTransmission := none, driver := .released, latch := none } }
    let back : State := { stopped with lc := { stopped.lc with queue := s.lc.queue ++ [f.queued] } }
    let free := ∀ g ∈ s.lc.queue, g.ref.tagOf ≠ f.queued.ref.tagOf
    ((∀ b, f.frame.body = .beacon b → b.fresh = false) → exec .frameSent s = .next sent) ∧
    (∀ b, f.frame.body = .beacon b → b.fresh = true →
      exec .frameSent s = .next { sent with pr := { s.pr with freshOwed := false } }) ∧
    ∀ u : State,
      (f.queued.ref = .beacon ∧ (∃ g ∈ s.lc.queue, g.ref = .beacon) ∧ u = stopped ∨
        f.queued.ref = .beacon ∧ (∀ g ∈ s.lc.queue, g.ref ≠ .beacon) ∧ s.lc.queue.length < 17 ∧ u = back ∨
        (∃ tag e, f.queued.ref = .claim tag ∧ s.findEntry tag = some e ∧ e.state ≠ .retiring ∧ e.held = false) ∧ free ∧
          s.lc.queue.length < 17 ∧ u = back ∨
        (∃ tag, f.queued.ref = .claim tag ∧ ((∀ e, s.findEntry tag = some e → e.state = .retiring ∨ e.held = true) ∨ ¬ free)) ∧
          u = stopped ∨
        (∃ tag, f.queued.ref = .withdraw tag) ∧ free ∧ s.lc.queue.length < 17 ∧ u = back ∨
        (∃ tag, f.queued.ref = .withdraw tag) ∧ (¬ free ∨ 17 ≤ s.lc.queue.length) ∧ u = stopped) →
      exec .readbackMismatch s = .next u ∧
      (s.lc.contending = none → ∃ t, exec .driveFault s = .next t ∧
        (State.raiseAlarm { u with lc := { u.lc with stretch := none } } .lineDriveFault).Follows t)

/-- LINE_CLEAR_DETECTED (R36, R57, R95, R154, R156, R162, R164, R165): CT and the transmit queue are emptied, the records take their
after-reset values but for D and the jump counter, and LINE_CLEARED tells the origin; in JOINING and RUNNING RETIRING entries leave, the
other claims are held, the part enters JOINING, and the acknowledge wait begins. The receiver keeps its state until the stretch ends. It is
detected once, when a stretch has lasted 64 bit times from its falling edge, whatever the receiver state, and not before. -/
def Obligations.LineClear : Prop :=
  (∀ s : State, s.lc.clearDetected = true ∨ (∀ start, s.lc.stretch = some start → 0 < s.distance (later start 32)) →
    exec .lineClearDetected s = .next s) ∧
  ∀ (s : State) (start : Time), s.working = true → s.lc.clearDetected = false →
    s.lc.stretch = some start → s.distance (later start 32) ≤ 0 →
    let report := Notice.lineCleared (if s.lc.clearDrive.isSome then .self else .line) s.now
    let records := s.pr.records.map fun r => { PeerRecord.fresh r.station with drift := r.drift, jumps := r.jumps }
    let line : LineController :=
      { s.lc with
        driver := if s.lc.clearDrive.isSome then .dominant else .released
        receiver := match s.lc.receiver with
          | .waitIdle _ => .waitIdle 0
          | .idle => .idle
          | .frame => .frame
        latch := none
        queue := []
        contending := none
        inTransmission := none
        clearDetected := true }
    ∃ t, exec .lineClearDetected s = .next t ∧
      (s.joined = false → State.Follows
        { s.offerNotice report with ct := [], pr := { s.pr with records := records }, lc := line } t) ∧
      (s.joined = true → State.Follows
        { s.offerNotice report with
          ct := []
          pr := { s.pr with records := records, freshOwed := true, firstFresh := none }
          pe := { s.pe with joining := .joining, joiningStart := none, joiningEnd := none }
          book := (s.book.filter (·.state ≠ .retiring)).map fun e => { e with held := true }
          lc := { line with
            queue := [⟨.beacon, s.lc.nextAsk⟩]
            nextAsk := s.lc.nextAsk + 1
            ack := .awaiting (later s.now 2000) } } t)

/-- LINE_STUCK_DETECTED raises LINE_STUCK with its condition (R166, R181), DOMINANT_STRETCH_END ends a detected stretch (R162, R166) or one
that was a level of the frame in progress or of none (R150, R162), but not one of 64 bit times before its detection, and CLEAR_DRIVE_END
releases the line (R163). -/
def Obligations.DominantStretch : Prop :=
  (∀ (s : State) (start : Time), s.working = true → s.lc.clearDetected = true → s.au.stuckCondition = false →
    s.lc.stretch = some start → s.distance (later start 2000) ≤ 0 → ∃ t, exec .lineStuckDetected s = .next t ∧
      (State.raiseAlarm { s with au := { s.au with stuckCondition := true } } .lineStuck).Follows t) ∧
  (∀ s : State, s.working = true → s.lc.clearDetected = true → s.lc.clearDrive = none →
    exec .dominantStretchEnd s = .next
      { s with
        lc := { s.lc with receiver := .waitIdle 0, latch := none, stretch := none, clearDetected := false }
        au := { s.au with stuckCondition := false } }) ∧
  (∀ (s : State) (start : Time), s.lc.clearDetected = false → s.lc.stretch = some start → s.distance (later start 32) ≤ 0 →
    exec .dominantStretchEnd s = .next s) ∧
  (∀ s : State, s.working = true → s.lc.clearDetected = false → s.lc.clearDrive = none →
    (∀ start, s.lc.stretch = some start → 0 < s.distance (later start 32)) → exec .dominantStretchEnd s = .next
      { s with lc := { s.lc with
        receiver := match s.lc.receiver with
          | .waitIdle _ => .waitIdle 0
          | .idle => .idle
          | .frame => .frame
        stretch := none } }) ∧
  ∀ (s : State) (ends : Time), s.working = true → s.lc.clearDrive = some ends → s.distance ends ≤ 0 →
    exec .clearDriveEnd s = .next { s with lc := { s.lc with clearDrive := none, driver := .released } }

/-! ## Conflict and rank -/

/-- Rank decides between any two stations, and both reach the same decision: of two sides with different station numbers exactly one is
stronger, and the order is transitive (R84, R88). -/
def Obligations.RankDecides : Prop :=
  (∀ a b : Rank, a.station ≠ b.station → a.stronger b = !b.stronger a) ∧
  (∀ a b c : Rank, a.stronger b = true → b.stronger c = true → a.stronger c = true) ∧
  ∀ a b : Rank, (b.cls.number < a.cls.number → a.stronger b = true) ∧
    (a.cls = b.cls → b.credit < a.credit → a.stronger b = true) ∧
    (a.cls = b.cls → a.credit = b.credit → (a.stronger b = true ↔ a.station.toNat < b.station.toNat))

/-- Spectral conflict (R78, R79): the separation is 0 exactly when the spans share a frequency and is the gap between them otherwise; two
receivers never conflict; each pairing of directions is tested against its own table. -/
def Obligations.SpectralTest : Prop :=
  (∀ xLow xHigh yLow yHigh : Nat, xLow ≤ xHigh → yLow ≤ yHigh →
    (separation xLow xHigh yLow yHigh = 0 ↔ ∃ f, xLow ≤ f ∧ f ≤ xHigh ∧ yLow ≤ f ∧ f ≤ yHigh) ∧
    separation xLow xHigh yLow yHigh = separation yLow yHigh xLow xHigh ∧
    (xHigh < yLow → separation xLow xHigh yLow yHigh = yLow - xHigh)) ∧
  ∀ (p : Profile) (x : Activity) (y : ClaimEntry),
    let sep := separation x.low x.high y.low y.high
    (x.dir = .rx → y.dir = .rx → spectralConflict p x y = false) ∧
    (x.dir = .rx → y.dir ≠ .rx → (spectralConflict p x y = true ↔ sep < p.vict.get y.power)) ∧
    (x.dir ≠ .rx → y.dir = .rx → (spectralConflict p x y = true ↔ sep < p.aggr.get x.power)) ∧
    (x.dir = .tx → y.dir = .tx → (spectralConflict p x y = true ↔ sep < p.same)) ∧
    (x.dir = .txrx → y.dir = .tx → (spectralConflict p x y = true ↔ sep < p.vict.get y.power ∨ sep < p.same)) ∧
    (x.dir = .tx → y.dir = .txrx → (spectralConflict p x y = true ↔ sep < p.aggr.get x.power ∨ sep < p.same)) ∧
    (x.dir = .txrx → y.dir = .txrx →
      (spectralConflict p x y = true ↔ sep < p.vict.get y.power ∨ sep < p.aggr.get x.power ∨ sep < p.same))

/-! ## Formats -/

/-- The line frame as its receiver takes it: the bits of every frame, stuffed and closed by the end mark, are received as that frame, and
no other bits are received as it (R148, R149, R159, R201). A frame with the own number is OWN_NUMBER_FRAME, any other the command of its
kind (R159, R161). Bits from a start mark on that begin with no frame are a BAD_FRAME once they are as many as a longest frame has, and
whatever follows them: for the CRC at its last bit, for the end mark at its first dominant level, and for a stuff error at the sixth of
equal levels.
-/
def Obligations.FramesAreReceived : Prop :=
  (∀ f : Frame, receiveBits (lineBits f) = some f) ∧
  (∀ (line : List Bool) (f : Frame), receiveBits line = some f ↔ ∃ rest, line = lineBits f ++ rest) ∧
  ∀ (own : Station) (line : List Bool),
    (∀ f rest, line = lineBits f ++ rest →
      (f.station = own → commandOfLine own line = some .ownNumberFrame) ∧
      (f.station ≠ own →
        (∀ b, f.body = .beacon b → commandOfLine own line = some (.beaconReceived f.station b)) ∧
        (∀ short c, f.body = .claim short c → commandOfLine own line = some (.claimReceived f.station short c)) ∧
        ∀ tag, f.body = .withdraw tag → commandOfLine own line = some (.withdrawReceived f.station tag))) ∧
    ((∀ f rest, line ≠ lineBits f ++ rest) → line.head? = some false → 180 ≤ line.length →
      ∃ cause, commandOfLine own line = some (.badFrame [] cause)) ∧
    ∀ (f : Frame) (rest : List Bool),
      (∀ crc : BitVec 16, crc ≠ crcOf (frameBits f) →
        commandOfLine own (stuffFrom true 0 (false :: frameBits f ++ bitsOf crc) ++ rest) = some (.badFrame [] .crc)) ∧
      (∀ k, k < 7 → commandOfLine own (stuffFrom true 0 (unstuffedBits f) ++ List.replicate k true ++ false :: rest) =
        some (.badFrame [] .endMark)) ∧
      ∀ (pre post : List Bool) (level : Bool), stuffFrom true 0 (unstuffedBits f) = pre ++ List.replicate 5 level ++ post →
        commandOfLine own (pre ++ List.replicate 6 level ++ rest) =
          some (.badFrame [] (if level then .stuffRecessive else .stuffDominant))

/-- Bit stuffing leaves no six consecutive equal bits from the start mark to the end of the stuffed part (R148). -/
def Obligations.StuffedRuns : Prop :=
  ∀ (f : Frame) (pre mid post : List Bool) (level : Bool), stuffFrom true 0 (unstuffedBits f) = pre ++ mid ++ post →
    (∀ b ∈ mid, b = level) → mid.length ≤ 5

/-- What the port makes of the whole bytes of a transaction: no byte or kind byte 0 is no record, a kind byte that is no record kind is
UNKNOWN_KIND, and a length byte that is missing, too low or above the bytes that follow is BAD_LENGTH (R193). The bytes of a record are
read back as that record, with every field at every value its bytes can carry; bytes beyond the stated length, body bytes beyond the kind's
body length, and the upper bits of a SUBMIT's kind and direction bytes change nothing (R193, R202). So are its bits on MOSI, most
significant first, whatever bits of a partial byte follow them (R192). -/
def Obligations.RecordsAreRead : Prop :=
  let least : List Nat := [75, 22, 1, 1, 5, 0, 0, 2, 0, 0, 0]
  (∀ (act rq : Bool) (bytes : List Byte),
    (bytes = [] ∨ bytes.head? = some 0 → transactionCommand act rq bytes = .transactionEnd bytes.length .noRecord) ∧
    ∀ (kind : Byte) (rest : List Byte), bytes = kind :: rest → kind ≠ 0 →
      (least[kind.toNat - 1]? = none → transactionCommand act rq bytes = .transactionEnd bytes.length (.unknownKind kind)) ∧
      ∀ n, least[kind.toNat - 1]? = some n →
        (rest = [] → transactionCommand act rq bytes = .transactionEnd bytes.length (.badLength kind)) ∧
        ∀ (stated : Byte) (body : List Byte), rest = stated :: body → stated.toNat < n ∨ body.length < stated.toNat →
          transactionCommand act rq bytes = .transactionEnd bytes.length (.badLength kind)) ∧
  (∀ (act rq : Bool) (c : Instr) (kind stated : Byte) (body more after : List Byte),
    recordBytes c = some (kind :: BitVec.ofNat 8 body.length :: body) → stated.toNat = body.length + more.length →
    c.risesWith = some (2 + body.length + more.length + after.length) → (∀ whole a q r, c = .setup whole a q r → a = act ∧ q = rq) →
    (∀ whole r, c = .submit whole r → r.minDuration = none → more.length < 2) →
    transactionCommand act rq (kind :: stated :: (body ++ more ++ after)) = c) ∧
  (∀ (act rq : Bool) (stated tag periodic dir : Byte) (middle rest : List Byte), middle.length = 13 →
    transactionCommand act rq (2 :: stated :: tag :: periodic :: (middle ++ dir :: rest)) =
      transactionCommand act rq (2 :: stated :: tag :: (periodic &&& 1) :: (middle ++ (dir &&& 3) :: rest))) ∧
  ∀ (act rq : Bool) (c : Instr) (bytes : List Byte), recordBytes c = some bytes → c.risesWith = some bytes.length →
    (∀ whole a q r, c = .setup whole a q r → a = act ∧ q = rq) →
    transactionCommand act rq bytes = c ∧
      ∀ partialBits : List Bool, partialBits.length < 8 → transactionOfBits act rq (bytes.flatMap bitsOfByte ++ partialBits) = c

/-- A notice is shifted out with its kind byte, its length byte and a body of that many bytes, with its fields in the order and by the
codes of R203, most significant byte first (R192, R203); a STATUS_REPORT gives its seven peers. A flag or level byte is 1 for set or
asserted (DEDUCED, notes/assumptions/26); the bits the formats give no value, those of a boundary time that is absent among them, are free
values, which the clauses leave open (notes/assumptions/14). MISO gives the bits of the notice fixed at the CSn fall, bytes most
significant bit first and 0 after the last, only 0 when none was fixed, and is released while CSn is high. -/
def Obligations.NoticeBytes : Prop :=
  let be (n v : Nat) : List Byte := (List.range n).map fun i => BitVec.ofNat 8 (v / 256 ^ (n - 1 - i))
  let signed (v : Int) : List Byte := be 2 (v % 65536).toNat
  let flag (b : Bool) : Byte := if b then 1 else 0
  let reasons : List Reason := [.none, .notSet, .alreadySet, .badLength, .unknownKind, .bookFull, .tagBusy, .unknownTag, .horizon,
    .badPeriod, .badSpan, .clearPending, .halted]
  let profile (p : Option ProfileName) : Byte := if p = some .a then 0 else if p = some .b then 1 else 255
  let monitor (m : MonitorState) : Byte := BitVec.ofNat 8 ([MonitorState.clockOk, .clockSuspect, .clockLost].idxOf m)
  (∀ kind outcome reason tag clamped, let n := Notice.reply kind outcome reason tag clamped
    n.kind = 1 ∧ n.body = kind :: BitVec.ofNat 8 ([ReplyOutcome.accepted, .clamped, .demoted, .refused].idxOf outcome) ::
      BitVec.ofNat 8 (reasons.idxOf reason) :: tag :: BitVec.ofNat 8 clamped.length :: clamped.map (BitVec.ofNat 8)) ∧
  (∀ tag index outcome start length held, let n := Notice.occurrence tag index outcome start length held
    let codes : List Byte :=
      if outcome = .grant then [0, 0] else if outcome = .clip then [1, 0] else if outcome = .skipStrongerPeer then [2, 1] else [2, 2]
    n.kind = 2 ∧ n.body = [tag] ++ be 4 index.toNat ++ codes ++ be 4 start.toNat ++ be 2 length ++ [flag held]) ∧
  (∀ tag index change length, let n := Notice.occChange tag index change length
    n.kind = 3 ∧ n.body = [tag] ++ be 4 index.toNat ++ [if change = .retract then 1 else 0] ++ be 2 length) ∧
  (∀ tag reason stage ended counters, let n := Notice.reqEnd tag reason stage ended counters
    n.kind = 4 ∧ n.body = [tag, BitVec.ofNat 8 ([EndReason.done, .cancelled, .halted].idxOf reason),
        BitVec.ofNat 8 ([Stage.taken, .announced, .committed, .active].idxOf stage)] ++ be 4 ended.toNat ++
      be 4 counters.granted.toNat ++ be 4 counters.clipped.toNat ++ be 4 counters.skipped.toNat ++ be 4 counters.retracted.toNat ++
      be 4 counters.cut.toNat ++ be 4 counters.lateOverlaps.toNat) ∧
  (∀ f : FlagSet, ∃ high low : Byte, flagSetBytes f = [high, low] ∧ (high ++ low).setWidth 11 = f) ∧
  (∀ flags hold, let n := Notice.alert (some (flags, hold))
    n.kind = 5 ∧ n.body = flagSetBytes flags ++ [flag hold]) ∧
  (∀ name epoch boundary, let n := Notice.profileApplied name epoch boundary
    n.kind = 6 ∧ n.body = [profile (some name)] ++ be 4 epoch.toNat ++ be 4 boundary.toNat) ∧
  (∀ origin detected, let n := Notice.lineCleared origin detected
    n.kind = 7 ∧ n.body = [if origin = .line then 1 else 0] ++ be 4 detected.toNat) ∧
  (∀ ring usage credit ranking overruns, let n := Notice.meterReport ring usage credit ranking overruns
    n.kind = 8 ∧ n.body = ring.flatMap (be 4) ++ be 4 usage ++ signed credit ++ signed ranking ++ be 2 overruns.toNat) ∧
  (∀ r : StatusReport, let n := Notice.statusReport r
    let entry (p : PeerStatus) : List Byte :=
      [p.station.setWidth 8, BitVec.ofNat 8 ([Liveness.unheard, .live, .quiet, .lost].idxOf p.state)] ++ signed p.credit ++
        [p.senderByte r.free] ++ be 2 p.jumps.toNat
    n.kind = 9 ∧ n.body =
      [BitVec.ofNat 8 ([PartState.unset, .joining, .running, .halted].idxOf r.part), flag r.hold, r.station.setWidth 8, flag r.fallback] ++
        flagSetBytes r.flags ++ be 2 r.rxErrors.toNat ++ be 2 r.clashes.toNat ++ be 2 r.lateOverlaps.toNat ++ be 2 r.overruns.toNat ++
        be 2 r.noticeLosses.toNat ++ [profile r.inForce, profile r.pendingProfile, monitor r.monitor,
          if r.ack = .noClear then 0 else if r.ack = .expired then 2 else 1] ++ r.peers.flatMap entry) ∧
  (∀ (p : PeerStatus) (free : Nat), let byte := p.senderByte free
    byte.getLsbD 0 = p.hold.isSome ∧ (∀ hold, p.hold = some hold → byte.getLsbD 1 = hold) ∧
      byte.getLsbD 2 = p.profile.isSome ∧ ∀ name, p.profile = some name → byte.getLsbD 3 = decide (name = .b)) ∧
  (∀ now epoch last epochLength state free, let n := Notice.timeReport now epoch last epochLength state free
    n.kind = 10 ∧ ∃ boundary : Time, (∀ b, last = some b → boundary = b) ∧
      n.body = be 4 now.toNat ++ be 4 epoch.toNat ++ be 4 boundary.toNat ++ be 4 epochLength ++ [monitor state, flag last.isSome]) ∧
  ∀ n : Notice, (∀ r, n = .statusReport r → r.peers.length = 7) → (∀ ring u c k o, n = .meterReport ring u c k o → ring.length = 8) →
    n.body.length = n.length ∧ n.bytes = n.kind :: BitVec.ofNat 8 n.body.length :: n.body ∧
      ∀ (r : RadioPort) (k : Nat), (r.transaction = none → r.miso k = none) ∧
        (r.transaction = some ⟨none⟩ → r.miso k = some false) ∧
        (r.transaction = some ⟨some n⟩ → r.miso k = some ((n.bytes.flatMap bitsOfByte).getD k false))

/-! ## Laws every step keeps -/

/-- GNT follows FB while RSTn is low and stands at the level of its law otherwise, the hold flag is the one its rule gives, and the fast grant
record is FAST IDLE exactly while the filtered level of RQ is low, after every step (R116, R117, R125, R187). -/
def Obligations.GrantLawsKept : Prop :=
  (∀ s t : State, step s = .next t → s.GntLaw → s.BookLaw → t.GntLaw) ∧
  (∀ s t : State, step s = .next t → s.HoldLaw → t.HoldLaw) ∧ ∀ s t : State, step s = .next t → s.FastLaw → t.FastLaw

/-- The notice queue keeps its bound and its one ALERT, and ATTN follows it, after every step (R185, R195, R196). -/
def Obligations.NoticeLawKept : Prop := ∀ s t : State, step s = .next t → s.NoticeLaw → t.NoticeLaw

/-- The book keeps at most 16 entries with distinct tags, and the transmit queue its law, after every step (R20, R155). -/
def Obligations.BookAndQueueLawsKept : Prop :=
  (∀ s t : State, step s = .next t → s.BookLaw → t.BookLaw) ∧
  ∀ s t : State, step s = .next t → s.QueueLaw → s.BookLaw → t.QueueLaw

/-- The peer records keep their numbers, ranges and deadlines, and the claim table its law, after every step (R39 to R42, R66, R68, R72). That a
QUIET record holds no QUIET deadline is DEDUCED (notes/assumptions/28). -/
def Obligations.PeerAndClaimLawsKept : Prop :=
  (∀ s t : State, step s = .next t → s.PeerLaw → t.PeerLaw) ∧
  ∀ s t : State, step s = .next t → s.ClaimLaw → s.PeerLaw → t.ClaimLaw

/-- In UNSET and HALTED the book and the transmit queue stay empty, and LC drives nothing, after every step (R7, R38, R167, R168). The
receiver counts fewer than 11 recessive bits in WAIT IDLE, no stretch is timed at line idle, and LC times one and sends no frame while a
line clear is detected or driven (R150, R162, R163). -/
def Obligations.QuietLawKept : Prop :=
  (∀ s t : State, step s = .next t → s.QuietLaw → t.QuietLaw) ∧ ∀ s t : State, step s = .next t → s.LineLaw → t.LineLaw

/-- The ring, the running usage and the credit stay in their ranges after every step (R134, R137). -/
def Obligations.MeterLawKept : Prop := ∀ s t : State, step s = .next t → s.MeterLaw → t.MeterLaw

/-- A COMMITTED or ACTIVE entry holds a placement inside its claim window, full or at least min duration long, and no other entry holds one,
after every step (R25, R30, R104). -/
def Obligations.PlacementLawKept : Prop := ∀ s t : State, step s = .next t → s.PlacementLaw → s.BookLaw → t.PlacementLaw
end

