-- ==== Sys2Proof/Laws/Bits.lean ====
section
/-! SUPPORT. The bits of bytes on the serial port: what reading and writing them can do (R192). -/

namespace Sys2Proof

theorem length_bitsOfByte (b : Byte) : (bitsOfByte b).length = 8 := by simp [bitsOfByte]

theorem byteOfBits_bitsOfByte (b : Byte) : byteOfBits (bitsOfByte b) = b := by revert b; decide

/-- A partial byte gives no whole byte. -/
theorem wholeBytes_partial {bits : List Bool} (h : bits.length < 8) : wholeBytes bits = [] := by
  unfold wholeBytes
  split
  · simp at h
    omega
  · rfl

/-- The whole bytes of the bits of some bytes, with a partial byte after them, are those bytes. -/
theorem wholeBytes_bits (bytes : List Byte) {rest : List Bool} (h : rest.length < 8) :
    wholeBytes (bytes.flatMap bitsOfByte ++ rest) = bytes := by
  induction bytes with
  | nil => exact wholeBytes_partial h
  | cons b bytes ih =>
    have hb := byteOfBits_bitsOfByte b
    have hl : bitsOfByte b = [b.getMsbD 0, b.getMsbD 1, b.getMsbD 2, b.getMsbD 3, b.getMsbD 4, b.getMsbD 5, b.getMsbD 6, b.getMsbD 7] := rfl
    rw [hl] at hb
    simp [List.flatMap_cons, hl, wholeBytes, ih, hb]

/-- Bit k of some bytes, most significant bits first, is bit k mod 8 of byte k / 8. -/
theorem getD_bits (bytes : List Byte) (k : Nat) : (bytes.flatMap bitsOfByte).getD k false = (bytes.getD (k / 8) 0).getMsbD (k % 8) := by
  induction bytes generalizing k with
  | nil => simp
  | cons b bytes ih =>
    rw [List.flatMap_cons, List.getD_eq_getElem?_getD]
    by_cases h : k < 8
    · rw [List.getElem?_append_left (by rw [length_bitsOfByte]; exact h), Nat.div_eq_of_lt h, Nat.mod_eq_of_lt h]
      simp [bitsOfByte, h]
    · rw [List.getElem?_append_right (by rw [length_bitsOfByte]; omega), length_bitsOfByte, ← List.getD_eq_getElem?_getD, ih,
        show k / 8 = (k - 8) / 8 + 1 by omega, show (k - 8) % 8 = k % 8 by omega]
      simp

namespace Machine

/-- A transaction shifts out the bits of the notice it fixed, and 0 after them. -/
theorem Transaction.misoBit_notice (n : Notice) (k : Nat) : Transaction.misoBit ⟨some n⟩ k = (n.bytes.flatMap bitsOfByte).getD k false :=
  (getD_bits n.bytes k).symm

end Machine

end Sys2Proof
end

