-- ==== Sys2Proof/Laws/State.lean ====
section
/-! SUPPORT. One lemma per field per update of a block: later proofs rewrite with these and unfold no record update. -/

namespace Sys2Proof.Machine

variable (s : State)

/-! ## `State.onTb` -/

@[simp] theorem State.onTb_pins (f : Timebase → Timebase) : (s.onTb f).pins = s.pins := rfl
@[simp] theorem State.onTb_station (f : Timebase → Timebase) : (s.onTb f).station = s.station := rfl
@[simp] theorem State.onTb_params (f : Timebase → Timebase) : (s.onTb f).params = s.params := rfl
@[simp] theorem State.onTb_halted (f : Timebase → Timebase) : (s.onTb f).halted = s.halted := rfl
@[simp] theorem State.onTb_tb (f : Timebase → Timebase) : (s.onTb f).tb = f s.tb := rfl
@[simp] theorem State.onTb_book (f : Timebase → Timebase) : (s.onTb f).book = s.book := rfl
@[simp] theorem State.onTb_pr (f : Timebase → Timebase) : (s.onTb f).pr = s.pr := rfl
@[simp] theorem State.onTb_ct (f : Timebase → Timebase) : (s.onTb f).ct = s.ct := rfl
@[simp] theorem State.onTb_pe (f : Timebase → Timebase) : (s.onTb f).pe = s.pe := rfl
@[simp] theorem State.onTb_gd (f : Timebase → Timebase) : (s.onTb f).gd = s.gd := rfl
@[simp] theorem State.onTb_am (f : Timebase → Timebase) : (s.onTb f).am = s.am := rfl
@[simp] theorem State.onTb_lc (f : Timebase → Timebase) : (s.onTb f).lc = s.lc := rfl
@[simp] theorem State.onTb_ps (f : Timebase → Timebase) : (s.onTb f).ps = s.ps := rfl
@[simp] theorem State.onTb_au (f : Timebase → Timebase) : (s.onTb f).au = s.au := rfl
@[simp] theorem State.onTb_rp (f : Timebase → Timebase) : (s.onTb f).rp = s.rp := rfl
@[simp] theorem State.onTb_free (f : Timebase → Timebase) : (s.onTb f).free = s.free := rfl
@[simp] theorem State.onTb_pending (f : Timebase → Timebase) : (s.onTb f).pending = s.pending := rfl

/-! ## `State.onBook` -/

@[simp] theorem State.onBook_pins (f : List Entry → List Entry) : (s.onBook f).pins = s.pins := rfl
@[simp] theorem State.onBook_station (f : List Entry → List Entry) : (s.onBook f).station = s.station := rfl
@[simp] theorem State.onBook_params (f : List Entry → List Entry) : (s.onBook f).params = s.params := rfl
@[simp] theorem State.onBook_halted (f : List Entry → List Entry) : (s.onBook f).halted = s.halted := rfl
@[simp] theorem State.onBook_tb (f : List Entry → List Entry) : (s.onBook f).tb = s.tb := rfl
@[simp] theorem State.onBook_book (f : List Entry → List Entry) : (s.onBook f).book = f s.book := rfl
@[simp] theorem State.onBook_pr (f : List Entry → List Entry) : (s.onBook f).pr = s.pr := rfl
@[simp] theorem State.onBook_ct (f : List Entry → List Entry) : (s.onBook f).ct = s.ct := rfl
@[simp] theorem State.onBook_pe (f : List Entry → List Entry) : (s.onBook f).pe = s.pe := rfl
@[simp] theorem State.onBook_gd (f : List Entry → List Entry) : (s.onBook f).gd = s.gd := rfl
@[simp] theorem State.onBook_am (f : List Entry → List Entry) : (s.onBook f).am = s.am := rfl
@[simp] theorem State.onBook_lc (f : List Entry → List Entry) : (s.onBook f).lc = s.lc := rfl
@[simp] theorem State.onBook_ps (f : List Entry → List Entry) : (s.onBook f).ps = s.ps := rfl
@[simp] theorem State.onBook_au (f : List Entry → List Entry) : (s.onBook f).au = s.au := rfl
@[simp] theorem State.onBook_rp (f : List Entry → List Entry) : (s.onBook f).rp = s.rp := rfl
@[simp] theorem State.onBook_free (f : List Entry → List Entry) : (s.onBook f).free = s.free := rfl
@[simp] theorem State.onBook_pending (f : List Entry → List Entry) : (s.onBook f).pending = s.pending := rfl

/-! ## `State.onPr` -/

@[simp] theorem State.onPr_pins (f : Peers → Peers) : (s.onPr f).pins = s.pins := rfl
@[simp] theorem State.onPr_station (f : Peers → Peers) : (s.onPr f).station = s.station := rfl
@[simp] theorem State.onPr_params (f : Peers → Peers) : (s.onPr f).params = s.params := rfl
@[simp] theorem State.onPr_halted (f : Peers → Peers) : (s.onPr f).halted = s.halted := rfl
@[simp] theorem State.onPr_tb (f : Peers → Peers) : (s.onPr f).tb = s.tb := rfl
@[simp] theorem State.onPr_book (f : Peers → Peers) : (s.onPr f).book = s.book := rfl
@[simp] theorem State.onPr_pr (f : Peers → Peers) : (s.onPr f).pr = f s.pr := rfl
@[simp] theorem State.onPr_ct (f : Peers → Peers) : (s.onPr f).ct = s.ct := rfl
@[simp] theorem State.onPr_pe (f : Peers → Peers) : (s.onPr f).pe = s.pe := rfl
@[simp] theorem State.onPr_gd (f : Peers → Peers) : (s.onPr f).gd = s.gd := rfl
@[simp] theorem State.onPr_am (f : Peers → Peers) : (s.onPr f).am = s.am := rfl
@[simp] theorem State.onPr_lc (f : Peers → Peers) : (s.onPr f).lc = s.lc := rfl
@[simp] theorem State.onPr_ps (f : Peers → Peers) : (s.onPr f).ps = s.ps := rfl
@[simp] theorem State.onPr_au (f : Peers → Peers) : (s.onPr f).au = s.au := rfl
@[simp] theorem State.onPr_rp (f : Peers → Peers) : (s.onPr f).rp = s.rp := rfl
@[simp] theorem State.onPr_free (f : Peers → Peers) : (s.onPr f).free = s.free := rfl
@[simp] theorem State.onPr_pending (f : Peers → Peers) : (s.onPr f).pending = s.pending := rfl

/-! ## `State.onCt` -/

@[simp] theorem State.onCt_pins (f : List ClaimEntry → List ClaimEntry) : (s.onCt f).pins = s.pins := rfl
@[simp] theorem State.onCt_station (f : List ClaimEntry → List ClaimEntry) : (s.onCt f).station = s.station := rfl
@[simp] theorem State.onCt_params (f : List ClaimEntry → List ClaimEntry) : (s.onCt f).params = s.params := rfl
@[simp] theorem State.onCt_halted (f : List ClaimEntry → List ClaimEntry) : (s.onCt f).halted = s.halted := rfl
@[simp] theorem State.onCt_tb (f : List ClaimEntry → List ClaimEntry) : (s.onCt f).tb = s.tb := rfl
@[simp] theorem State.onCt_book (f : List ClaimEntry → List ClaimEntry) : (s.onCt f).book = s.book := rfl
@[simp] theorem State.onCt_pr (f : List ClaimEntry → List ClaimEntry) : (s.onCt f).pr = s.pr := rfl
@[simp] theorem State.onCt_ct (f : List ClaimEntry → List ClaimEntry) : (s.onCt f).ct = f s.ct := rfl
@[simp] theorem State.onCt_pe (f : List ClaimEntry → List ClaimEntry) : (s.onCt f).pe = s.pe := rfl
@[simp] theorem State.onCt_gd (f : List ClaimEntry → List ClaimEntry) : (s.onCt f).gd = s.gd := rfl
@[simp] theorem State.onCt_am (f : List ClaimEntry → List ClaimEntry) : (s.onCt f).am = s.am := rfl
@[simp] theorem State.onCt_lc (f : List ClaimEntry → List ClaimEntry) : (s.onCt f).lc = s.lc := rfl
@[simp] theorem State.onCt_ps (f : List ClaimEntry → List ClaimEntry) : (s.onCt f).ps = s.ps := rfl
@[simp] theorem State.onCt_au (f : List ClaimEntry → List ClaimEntry) : (s.onCt f).au = s.au := rfl
@[simp] theorem State.onCt_rp (f : List ClaimEntry → List ClaimEntry) : (s.onCt f).rp = s.rp := rfl
@[simp] theorem State.onCt_free (f : List ClaimEntry → List ClaimEntry) : (s.onCt f).free = s.free := rfl
@[simp] theorem State.onCt_pending (f : List ClaimEntry → List ClaimEntry) : (s.onCt f).pending = s.pending := rfl

/-! ## `State.onPe` -/

@[simp] theorem State.onPe_pins (f : Placer → Placer) : (s.onPe f).pins = s.pins := rfl
@[simp] theorem State.onPe_station (f : Placer → Placer) : (s.onPe f).station = s.station := rfl
@[simp] theorem State.onPe_params (f : Placer → Placer) : (s.onPe f).params = s.params := rfl
@[simp] theorem State.onPe_halted (f : Placer → Placer) : (s.onPe f).halted = s.halted := rfl
@[simp] theorem State.onPe_tb (f : Placer → Placer) : (s.onPe f).tb = s.tb := rfl
@[simp] theorem State.onPe_book (f : Placer → Placer) : (s.onPe f).book = s.book := rfl
@[simp] theorem State.onPe_pr (f : Placer → Placer) : (s.onPe f).pr = s.pr := rfl
@[simp] theorem State.onPe_ct (f : Placer → Placer) : (s.onPe f).ct = s.ct := rfl
@[simp] theorem State.onPe_pe (f : Placer → Placer) : (s.onPe f).pe = f s.pe := rfl
@[simp] theorem State.onPe_gd (f : Placer → Placer) : (s.onPe f).gd = s.gd := rfl
@[simp] theorem State.onPe_am (f : Placer → Placer) : (s.onPe f).am = s.am := rfl
@[simp] theorem State.onPe_lc (f : Placer → Placer) : (s.onPe f).lc = s.lc := rfl
@[simp] theorem State.onPe_ps (f : Placer → Placer) : (s.onPe f).ps = s.ps := rfl
@[simp] theorem State.onPe_au (f : Placer → Placer) : (s.onPe f).au = s.au := rfl
@[simp] theorem State.onPe_rp (f : Placer → Placer) : (s.onPe f).rp = s.rp := rfl
@[simp] theorem State.onPe_free (f : Placer → Placer) : (s.onPe f).free = s.free := rfl
@[simp] theorem State.onPe_pending (f : Placer → Placer) : (s.onPe f).pending = s.pending := rfl

/-! ## `State.onGd` -/

@[simp] theorem State.onGd_pins (f : GrantDriver → GrantDriver) : (s.onGd f).pins = s.pins := rfl
@[simp] theorem State.onGd_station (f : GrantDriver → GrantDriver) : (s.onGd f).station = s.station := rfl
@[simp] theorem State.onGd_params (f : GrantDriver → GrantDriver) : (s.onGd f).params = s.params := rfl
@[simp] theorem State.onGd_halted (f : GrantDriver → GrantDriver) : (s.onGd f).halted = s.halted := rfl
@[simp] theorem State.onGd_tb (f : GrantDriver → GrantDriver) : (s.onGd f).tb = s.tb := rfl
@[simp] theorem State.onGd_book (f : GrantDriver → GrantDriver) : (s.onGd f).book = s.book := rfl
@[simp] theorem State.onGd_pr (f : GrantDriver → GrantDriver) : (s.onGd f).pr = s.pr := rfl
@[simp] theorem State.onGd_ct (f : GrantDriver → GrantDriver) : (s.onGd f).ct = s.ct := rfl
@[simp] theorem State.onGd_pe (f : GrantDriver → GrantDriver) : (s.onGd f).pe = s.pe := rfl
@[simp] theorem State.onGd_gd (f : GrantDriver → GrantDriver) : (s.onGd f).gd = f s.gd := rfl
@[simp] theorem State.onGd_am (f : GrantDriver → GrantDriver) : (s.onGd f).am = s.am := rfl
@[simp] theorem State.onGd_lc (f : GrantDriver → GrantDriver) : (s.onGd f).lc = s.lc := rfl
@[simp] theorem State.onGd_ps (f : GrantDriver → GrantDriver) : (s.onGd f).ps = s.ps := rfl
@[simp] theorem State.onGd_au (f : GrantDriver → GrantDriver) : (s.onGd f).au = s.au := rfl
@[simp] theorem State.onGd_rp (f : GrantDriver → GrantDriver) : (s.onGd f).rp = s.rp := rfl
@[simp] theorem State.onGd_free (f : GrantDriver → GrantDriver) : (s.onGd f).free = s.free := rfl
@[simp] theorem State.onGd_pending (f : GrantDriver → GrantDriver) : (s.onGd f).pending = s.pending := rfl

/-! ## `State.onAm` -/

@[simp] theorem State.onAm_pins (f : Meter → Meter) : (s.onAm f).pins = s.pins := rfl
@[simp] theorem State.onAm_station (f : Meter → Meter) : (s.onAm f).station = s.station := rfl
@[simp] theorem State.onAm_params (f : Meter → Meter) : (s.onAm f).params = s.params := rfl
@[simp] theorem State.onAm_halted (f : Meter → Meter) : (s.onAm f).halted = s.halted := rfl
@[simp] theorem State.onAm_tb (f : Meter → Meter) : (s.onAm f).tb = s.tb := rfl
@[simp] theorem State.onAm_book (f : Meter → Meter) : (s.onAm f).book = s.book := rfl
@[simp] theorem State.onAm_pr (f : Meter → Meter) : (s.onAm f).pr = s.pr := rfl
@[simp] theorem State.onAm_ct (f : Meter → Meter) : (s.onAm f).ct = s.ct := rfl
@[simp] theorem State.onAm_pe (f : Meter → Meter) : (s.onAm f).pe = s.pe := rfl
@[simp] theorem State.onAm_gd (f : Meter → Meter) : (s.onAm f).gd = s.gd := rfl
@[simp] theorem State.onAm_am (f : Meter → Meter) : (s.onAm f).am = f s.am := rfl
@[simp] theorem State.onAm_lc (f : Meter → Meter) : (s.onAm f).lc = s.lc := rfl
@[simp] theorem State.onAm_ps (f : Meter → Meter) : (s.onAm f).ps = s.ps := rfl
@[simp] theorem State.onAm_au (f : Meter → Meter) : (s.onAm f).au = s.au := rfl
@[simp] theorem State.onAm_rp (f : Meter → Meter) : (s.onAm f).rp = s.rp := rfl
@[simp] theorem State.onAm_free (f : Meter → Meter) : (s.onAm f).free = s.free := rfl
@[simp] theorem State.onAm_pending (f : Meter → Meter) : (s.onAm f).pending = s.pending := rfl

/-! ## `State.onLc` -/

@[simp] theorem State.onLc_pins (f : LineController → LineController) : (s.onLc f).pins = s.pins := rfl
@[simp] theorem State.onLc_station (f : LineController → LineController) : (s.onLc f).station = s.station := rfl
@[simp] theorem State.onLc_params (f : LineController → LineController) : (s.onLc f).params = s.params := rfl
@[simp] theorem State.onLc_halted (f : LineController → LineController) : (s.onLc f).halted = s.halted := rfl
@[simp] theorem State.onLc_tb (f : LineController → LineController) : (s.onLc f).tb = s.tb := rfl
@[simp] theorem State.onLc_book (f : LineController → LineController) : (s.onLc f).book = s.book := rfl
@[simp] theorem State.onLc_pr (f : LineController → LineController) : (s.onLc f).pr = s.pr := rfl
@[simp] theorem State.onLc_ct (f : LineController → LineController) : (s.onLc f).ct = s.ct := rfl
@[simp] theorem State.onLc_pe (f : LineController → LineController) : (s.onLc f).pe = s.pe := rfl
@[simp] theorem State.onLc_gd (f : LineController → LineController) : (s.onLc f).gd = s.gd := rfl
@[simp] theorem State.onLc_am (f : LineController → LineController) : (s.onLc f).am = s.am := rfl
@[simp] theorem State.onLc_lc (f : LineController → LineController) : (s.onLc f).lc = f s.lc := rfl
@[simp] theorem State.onLc_ps (f : LineController → LineController) : (s.onLc f).ps = s.ps := rfl
@[simp] theorem State.onLc_au (f : LineController → LineController) : (s.onLc f).au = s.au := rfl
@[simp] theorem State.onLc_rp (f : LineController → LineController) : (s.onLc f).rp = s.rp := rfl
@[simp] theorem State.onLc_free (f : LineController → LineController) : (s.onLc f).free = s.free := rfl
@[simp] theorem State.onLc_pending (f : LineController → LineController) : (s.onLc f).pending = s.pending := rfl

/-! ## `State.onPs` -/

@[simp] theorem State.onPs_pins (f : ProfileStore → ProfileStore) : (s.onPs f).pins = s.pins := rfl
@[simp] theorem State.onPs_station (f : ProfileStore → ProfileStore) : (s.onPs f).station = s.station := rfl
@[simp] theorem State.onPs_params (f : ProfileStore → ProfileStore) : (s.onPs f).params = s.params := rfl
@[simp] theorem State.onPs_halted (f : ProfileStore → ProfileStore) : (s.onPs f).halted = s.halted := rfl
@[simp] theorem State.onPs_tb (f : ProfileStore → ProfileStore) : (s.onPs f).tb = s.tb := rfl
@[simp] theorem State.onPs_book (f : ProfileStore → ProfileStore) : (s.onPs f).book = s.book := rfl
@[simp] theorem State.onPs_pr (f : ProfileStore → ProfileStore) : (s.onPs f).pr = s.pr := rfl
@[simp] theorem State.onPs_ct (f : ProfileStore → ProfileStore) : (s.onPs f).ct = s.ct := rfl
@[simp] theorem State.onPs_pe (f : ProfileStore → ProfileStore) : (s.onPs f).pe = s.pe := rfl
@[simp] theorem State.onPs_gd (f : ProfileStore → ProfileStore) : (s.onPs f).gd = s.gd := rfl
@[simp] theorem State.onPs_am (f : ProfileStore → ProfileStore) : (s.onPs f).am = s.am := rfl
@[simp] theorem State.onPs_lc (f : ProfileStore → ProfileStore) : (s.onPs f).lc = s.lc := rfl
@[simp] theorem State.onPs_ps (f : ProfileStore → ProfileStore) : (s.onPs f).ps = f s.ps := rfl
@[simp] theorem State.onPs_au (f : ProfileStore → ProfileStore) : (s.onPs f).au = s.au := rfl
@[simp] theorem State.onPs_rp (f : ProfileStore → ProfileStore) : (s.onPs f).rp = s.rp := rfl
@[simp] theorem State.onPs_free (f : ProfileStore → ProfileStore) : (s.onPs f).free = s.free := rfl
@[simp] theorem State.onPs_pending (f : ProfileStore → ProfileStore) : (s.onPs f).pending = s.pending := rfl

/-! ## `State.onAu` -/

@[simp] theorem State.onAu_pins (f : AlarmUnit → AlarmUnit) : (s.onAu f).pins = s.pins := rfl
@[simp] theorem State.onAu_station (f : AlarmUnit → AlarmUnit) : (s.onAu f).station = s.station := rfl
@[simp] theorem State.onAu_params (f : AlarmUnit → AlarmUnit) : (s.onAu f).params = s.params := rfl
@[simp] theorem State.onAu_halted (f : AlarmUnit → AlarmUnit) : (s.onAu f).halted = s.halted := rfl
@[simp] theorem State.onAu_tb (f : AlarmUnit → AlarmUnit) : (s.onAu f).tb = s.tb := rfl
@[simp] theorem State.onAu_book (f : AlarmUnit → AlarmUnit) : (s.onAu f).book = s.book := rfl
@[simp] theorem State.onAu_pr (f : AlarmUnit → AlarmUnit) : (s.onAu f).pr = s.pr := rfl
@[simp] theorem State.onAu_ct (f : AlarmUnit → AlarmUnit) : (s.onAu f).ct = s.ct := rfl
@[simp] theorem State.onAu_pe (f : AlarmUnit → AlarmUnit) : (s.onAu f).pe = s.pe := rfl
@[simp] theorem State.onAu_gd (f : AlarmUnit → AlarmUnit) : (s.onAu f).gd = s.gd := rfl
@[simp] theorem State.onAu_am (f : AlarmUnit → AlarmUnit) : (s.onAu f).am = s.am := rfl
@[simp] theorem State.onAu_lc (f : AlarmUnit → AlarmUnit) : (s.onAu f).lc = s.lc := rfl
@[simp] theorem State.onAu_ps (f : AlarmUnit → AlarmUnit) : (s.onAu f).ps = s.ps := rfl
@[simp] theorem State.onAu_au (f : AlarmUnit → AlarmUnit) : (s.onAu f).au = f s.au := rfl
@[simp] theorem State.onAu_rp (f : AlarmUnit → AlarmUnit) : (s.onAu f).rp = s.rp := rfl
@[simp] theorem State.onAu_free (f : AlarmUnit → AlarmUnit) : (s.onAu f).free = s.free := rfl
@[simp] theorem State.onAu_pending (f : AlarmUnit → AlarmUnit) : (s.onAu f).pending = s.pending := rfl

/-! ## `State.onRp` -/

@[simp] theorem State.onRp_pins (f : RadioPort → RadioPort) : (s.onRp f).pins = s.pins := rfl
@[simp] theorem State.onRp_station (f : RadioPort → RadioPort) : (s.onRp f).station = s.station := rfl
@[simp] theorem State.onRp_params (f : RadioPort → RadioPort) : (s.onRp f).params = s.params := rfl
@[simp] theorem State.onRp_halted (f : RadioPort → RadioPort) : (s.onRp f).halted = s.halted := rfl
@[simp] theorem State.onRp_tb (f : RadioPort → RadioPort) : (s.onRp f).tb = s.tb := rfl
@[simp] theorem State.onRp_book (f : RadioPort → RadioPort) : (s.onRp f).book = s.book := rfl
@[simp] theorem State.onRp_pr (f : RadioPort → RadioPort) : (s.onRp f).pr = s.pr := rfl
@[simp] theorem State.onRp_ct (f : RadioPort → RadioPort) : (s.onRp f).ct = s.ct := rfl
@[simp] theorem State.onRp_pe (f : RadioPort → RadioPort) : (s.onRp f).pe = s.pe := rfl
@[simp] theorem State.onRp_gd (f : RadioPort → RadioPort) : (s.onRp f).gd = s.gd := rfl
@[simp] theorem State.onRp_am (f : RadioPort → RadioPort) : (s.onRp f).am = s.am := rfl
@[simp] theorem State.onRp_lc (f : RadioPort → RadioPort) : (s.onRp f).lc = s.lc := rfl
@[simp] theorem State.onRp_ps (f : RadioPort → RadioPort) : (s.onRp f).ps = s.ps := rfl
@[simp] theorem State.onRp_au (f : RadioPort → RadioPort) : (s.onRp f).au = s.au := rfl
@[simp] theorem State.onRp_rp (f : RadioPort → RadioPort) : (s.onRp f).rp = f s.rp := rfl
@[simp] theorem State.onRp_free (f : RadioPort → RadioPort) : (s.onRp f).free = s.free := rfl
@[simp] theorem State.onRp_pending (f : RadioPort → RadioPort) : (s.onRp f).pending = s.pending := rfl

/-! ## `State.onPins` -/

@[simp] theorem State.onPins_pins (f : Pins → Pins) : (s.onPins f).pins = f s.pins := rfl
@[simp] theorem State.onPins_station (f : Pins → Pins) : (s.onPins f).station = s.station := rfl
@[simp] theorem State.onPins_params (f : Pins → Pins) : (s.onPins f).params = s.params := rfl
@[simp] theorem State.onPins_halted (f : Pins → Pins) : (s.onPins f).halted = s.halted := rfl
@[simp] theorem State.onPins_tb (f : Pins → Pins) : (s.onPins f).tb = s.tb := rfl
@[simp] theorem State.onPins_book (f : Pins → Pins) : (s.onPins f).book = s.book := rfl
@[simp] theorem State.onPins_pr (f : Pins → Pins) : (s.onPins f).pr = s.pr := rfl
@[simp] theorem State.onPins_ct (f : Pins → Pins) : (s.onPins f).ct = s.ct := rfl
@[simp] theorem State.onPins_pe (f : Pins → Pins) : (s.onPins f).pe = s.pe := rfl
@[simp] theorem State.onPins_gd (f : Pins → Pins) : (s.onPins f).gd = s.gd := rfl
@[simp] theorem State.onPins_am (f : Pins → Pins) : (s.onPins f).am = s.am := rfl
@[simp] theorem State.onPins_lc (f : Pins → Pins) : (s.onPins f).lc = s.lc := rfl
@[simp] theorem State.onPins_ps (f : Pins → Pins) : (s.onPins f).ps = s.ps := rfl
@[simp] theorem State.onPins_au (f : Pins → Pins) : (s.onPins f).au = s.au := rfl
@[simp] theorem State.onPins_rp (f : Pins → Pins) : (s.onPins f).rp = s.rp := rfl
@[simp] theorem State.onPins_free (f : Pins → Pins) : (s.onPins f).free = s.free := rfl
@[simp] theorem State.onPins_pending (f : Pins → Pins) : (s.onPins f).pending = s.pending := rfl

/-! ## Equality of states -/

/-- Two states with the same blocks are one state. -/
theorem State.eq_of_blocks {s t : State}
    (h0 : t.pins = s.pins) (h1 : t.station = s.station) (h2 : t.params = s.params) (h3 : t.halted = s.halted) (h4 : t.tb =
    s.tb) (h5 : t.book = s.book) (h6 : t.pr = s.pr) (h7 : t.ct = s.ct) (h8 : t.pe = s.pe) (h9 : t.gd = s.gd) (h10 : t.am =
    s.am) (h11 : t.lc = s.lc) (h12 : t.ps = s.ps) (h13 : t.au = s.au) (h14 : t.rp = s.rp) (h15 : t.free = s.free) (h16 :
    t.pending = s.pending) : t = s := by
  cases s
  cases t
  simp_all

end Sys2Proof.Machine
end

