-- ==== Sys2Proof/Laws/FrameFlags.lean ====
section
/-! SUPPORT. What each shared operation over the notice queue and the alarm unit leaves unchanged, block by block. -/

namespace Sys2Proof.Machine

variable (s : State)

/-- `pushNotice` changes nothing but rp. -/
@[simp] theorem State.pushNotice_frame (n : Notice) :
    (s.pushNotice n).pins = s.pins ∧ (s.pushNotice n).station = s.station ∧ (s.pushNotice n).params = s.params ∧
    (s.pushNotice n).halted = s.halted ∧ (s.pushNotice n).tb = s.tb ∧ (s.pushNotice n).book = s.book ∧ (s.pushNotice n).pr = s.pr ∧
    (s.pushNotice n).ct = s.ct ∧ (s.pushNotice n).pe = s.pe ∧ (s.pushNotice n).gd = s.gd ∧ (s.pushNotice n).am = s.am ∧
    (s.pushNotice n).lc = s.lc ∧ (s.pushNotice n).ps = s.ps ∧ (s.pushNotice n).au = s.au ∧ (s.pushNotice n).free = s.free ∧
    (s.pushNotice n).pending = s.pending := by
  simp [State.pushNotice]

/-- `workOutHold` changes nothing but au. -/
@[simp] theorem State.workOutHold_frame :
    (s.workOutHold).pins = s.pins ∧ (s.workOutHold).station = s.station ∧ (s.workOutHold).params = s.params ∧
    (s.workOutHold).halted = s.halted ∧ (s.workOutHold).tb = s.tb ∧ (s.workOutHold).book = s.book ∧ (s.workOutHold).pr = s.pr ∧
    (s.workOutHold).ct = s.ct ∧ (s.workOutHold).pe = s.pe ∧ (s.workOutHold).gd = s.gd ∧ (s.workOutHold).am = s.am ∧
    (s.workOutHold).lc = s.lc ∧ (s.workOutHold).ps = s.ps ∧ (s.workOutHold).rp = s.rp ∧ (s.workOutHold).free = s.free ∧
    (s.workOutHold).pending = s.pending := by
  simp [State.workOutHold]

/-- `alertNewRaise` changes nothing but au, rp. -/
@[simp] theorem State.alertNewRaise_frame :
    (s.alertNewRaise).pins = s.pins ∧ (s.alertNewRaise).station = s.station ∧ (s.alertNewRaise).params = s.params ∧
    (s.alertNewRaise).halted = s.halted ∧ (s.alertNewRaise).tb = s.tb ∧ (s.alertNewRaise).book = s.book ∧
    (s.alertNewRaise).pr = s.pr ∧ (s.alertNewRaise).ct = s.ct ∧ (s.alertNewRaise).pe = s.pe ∧ (s.alertNewRaise).gd = s.gd ∧
    (s.alertNewRaise).am = s.am ∧ (s.alertNewRaise).lc = s.lc ∧ (s.alertNewRaise).ps = s.ps ∧ (s.alertNewRaise).free = s.free ∧
    (s.alertNewRaise).pending = s.pending := by
  unfold State.alertNewRaise
  repeat' split
  all_goals simp

/-- `raiseAlarm` changes nothing but au, rp. -/
@[simp] theorem State.raiseAlarm_frame (a : Alarm) :
    (s.raiseAlarm a).pins = s.pins ∧ (s.raiseAlarm a).station = s.station ∧ (s.raiseAlarm a).params = s.params ∧
    (s.raiseAlarm a).halted = s.halted ∧ (s.raiseAlarm a).tb = s.tb ∧ (s.raiseAlarm a).book = s.book ∧ (s.raiseAlarm a).pr = s.pr ∧
    (s.raiseAlarm a).ct = s.ct ∧ (s.raiseAlarm a).pe = s.pe ∧ (s.raiseAlarm a).gd = s.gd ∧ (s.raiseAlarm a).am = s.am ∧
    (s.raiseAlarm a).lc = s.lc ∧ (s.raiseAlarm a).ps = s.ps ∧ (s.raiseAlarm a).free = s.free ∧ (s.raiseAlarm a).pending = s.pending := by
  unfold State.raiseAlarm
  repeat' split
  all_goals simp

/-- `clearAlarms` changes nothing but au. -/
@[simp] theorem State.clearAlarms_frame (f : FlagSet) :
    (s.clearAlarms f).pins = s.pins ∧ (s.clearAlarms f).station = s.station ∧ (s.clearAlarms f).params = s.params ∧
    (s.clearAlarms f).halted = s.halted ∧ (s.clearAlarms f).tb = s.tb ∧ (s.clearAlarms f).book = s.book ∧
    (s.clearAlarms f).pr = s.pr ∧ (s.clearAlarms f).ct = s.ct ∧ (s.clearAlarms f).pe = s.pe ∧ (s.clearAlarms f).gd = s.gd ∧
    (s.clearAlarms f).am = s.am ∧ (s.clearAlarms f).lc = s.lc ∧ (s.clearAlarms f).ps = s.ps ∧ (s.clearAlarms f).rp = s.rp ∧
    (s.clearAlarms f).free = s.free ∧ (s.clearAlarms f).pending = s.pending := by
  simp [State.clearAlarms]

/-- `noticeLost` changes nothing but au, rp. -/
@[simp] theorem State.noticeLost_frame :
    (s.noticeLost).pins = s.pins ∧ (s.noticeLost).station = s.station ∧ (s.noticeLost).params = s.params ∧
    (s.noticeLost).halted = s.halted ∧ (s.noticeLost).tb = s.tb ∧ (s.noticeLost).book = s.book ∧ (s.noticeLost).pr = s.pr ∧
    (s.noticeLost).ct = s.ct ∧ (s.noticeLost).pe = s.pe ∧ (s.noticeLost).gd = s.gd ∧ (s.noticeLost).am = s.am ∧
    (s.noticeLost).lc = s.lc ∧ (s.noticeLost).ps = s.ps ∧ (s.noticeLost).free = s.free ∧ (s.noticeLost).pending = s.pending := by
  simp [State.noticeLost]

/-- `offerNotice` changes nothing but au, rp. -/
@[simp] theorem State.offerNotice_frame (n : Notice) :
    (s.offerNotice n).pins = s.pins ∧ (s.offerNotice n).station = s.station ∧ (s.offerNotice n).params = s.params ∧
    (s.offerNotice n).halted = s.halted ∧ (s.offerNotice n).tb = s.tb ∧ (s.offerNotice n).book = s.book ∧
    (s.offerNotice n).pr = s.pr ∧ (s.offerNotice n).ct = s.ct ∧ (s.offerNotice n).pe = s.pe ∧ (s.offerNotice n).gd = s.gd ∧
    (s.offerNotice n).am = s.am ∧ (s.offerNotice n).lc = s.lc ∧ (s.offerNotice n).ps = s.ps ∧ (s.offerNotice n).free = s.free ∧
    (s.offerNotice n).pending = s.pending := by
  unfold State.offerNotice
  repeat' split
  all_goals simp

/-- `countOverrun` changes nothing but au, rp. -/
@[simp] theorem State.countOverrun_frame :
    (s.countOverrun).pins = s.pins ∧ (s.countOverrun).station = s.station ∧ (s.countOverrun).params = s.params ∧
    (s.countOverrun).halted = s.halted ∧ (s.countOverrun).tb = s.tb ∧ (s.countOverrun).book = s.book ∧ (s.countOverrun).pr = s.pr ∧
    (s.countOverrun).ct = s.ct ∧ (s.countOverrun).pe = s.pe ∧ (s.countOverrun).gd = s.gd ∧ (s.countOverrun).am = s.am ∧
    (s.countOverrun).lc = s.lc ∧ (s.countOverrun).ps = s.ps ∧ (s.countOverrun).free = s.free ∧ (s.countOverrun).pending = s.pending := by
  simp [State.countOverrun]

/-- `countLateOverlap` changes nothing but au, rp. -/
@[simp] theorem State.countLateOverlap_frame :
    (s.countLateOverlap).pins = s.pins ∧ (s.countLateOverlap).station = s.station ∧ (s.countLateOverlap).params = s.params ∧
    (s.countLateOverlap).halted = s.halted ∧ (s.countLateOverlap).tb = s.tb ∧ (s.countLateOverlap).book = s.book ∧
    (s.countLateOverlap).pr = s.pr ∧ (s.countLateOverlap).ct = s.ct ∧ (s.countLateOverlap).pe = s.pe ∧
    (s.countLateOverlap).gd = s.gd ∧ (s.countLateOverlap).am = s.am ∧ (s.countLateOverlap).lc = s.lc ∧
    (s.countLateOverlap).ps = s.ps ∧ (s.countLateOverlap).free = s.free ∧ (s.countLateOverlap).pending = s.pending := by
  simp [State.countLateOverlap]

/-- `countClash` changes nothing but au, rp. -/
@[simp] theorem State.countClash_frame :
    (s.countClash).pins = s.pins ∧ (s.countClash).station = s.station ∧ (s.countClash).params = s.params ∧
    (s.countClash).halted = s.halted ∧ (s.countClash).tb = s.tb ∧ (s.countClash).book = s.book ∧ (s.countClash).pr = s.pr ∧
    (s.countClash).ct = s.ct ∧ (s.countClash).pe = s.pe ∧ (s.countClash).gd = s.gd ∧ (s.countClash).am = s.am ∧
    (s.countClash).lc = s.lc ∧ (s.countClash).ps = s.ps ∧ (s.countClash).free = s.free ∧ (s.countClash).pending = s.pending := by
  simp [State.countClash]

/-- `alertAfterRemoval` changes nothing but au, rp. -/
@[simp] theorem State.alertAfterRemoval_frame (n : Notice) :
    (s.alertAfterRemoval n).pins = s.pins ∧ (s.alertAfterRemoval n).station = s.station ∧
    (s.alertAfterRemoval n).params = s.params ∧ (s.alertAfterRemoval n).halted = s.halted ∧ (s.alertAfterRemoval n).tb = s.tb ∧
    (s.alertAfterRemoval n).book = s.book ∧ (s.alertAfterRemoval n).pr = s.pr ∧ (s.alertAfterRemoval n).ct = s.ct ∧
    (s.alertAfterRemoval n).pe = s.pe ∧ (s.alertAfterRemoval n).gd = s.gd ∧ (s.alertAfterRemoval n).am = s.am ∧
    (s.alertAfterRemoval n).lc = s.lc ∧ (s.alertAfterRemoval n).ps = s.ps ∧ (s.alertAfterRemoval n).free = s.free ∧
    (s.alertAfterRemoval n).pending = s.pending := by
  unfold State.alertAfterRemoval
  repeat' split
  all_goals simp

/-- `removeHead` changes nothing but au, rp. -/
@[simp] theorem State.removeHead_frame :
    (s.removeHead).pins = s.pins ∧ (s.removeHead).station = s.station ∧ (s.removeHead).params = s.params ∧
    (s.removeHead).halted = s.halted ∧ (s.removeHead).tb = s.tb ∧ (s.removeHead).book = s.book ∧ (s.removeHead).pr = s.pr ∧
    (s.removeHead).ct = s.ct ∧ (s.removeHead).pe = s.pe ∧ (s.removeHead).gd = s.gd ∧ (s.removeHead).am = s.am ∧
    (s.removeHead).lc = s.lc ∧ (s.removeHead).ps = s.ps ∧ (s.removeHead).free = s.free ∧ (s.removeHead).pending = s.pending := by
  unfold State.removeHead
  repeat' split
  all_goals simp

end Sys2Proof.Machine
end

