-- ==== Sys2Proof/Laws/FrameQueue.lean ====
section
/-! SUPPORT. What each shared operation over the transmit queue leaves unchanged, block by block. -/

namespace Sys2Proof.Machine

variable (s : State)

/-- `dequeue` changes nothing but lc. -/
@[simp] theorem State.dequeue_frame (r : FrameRef) :
    (s.dequeue r).pins = s.pins ∧ (s.dequeue r).station = s.station ∧ (s.dequeue r).params = s.params ∧
    (s.dequeue r).halted = s.halted ∧ (s.dequeue r).tb = s.tb ∧ (s.dequeue r).book = s.book ∧ (s.dequeue r).pr = s.pr ∧
    (s.dequeue r).ct = s.ct ∧ (s.dequeue r).pe = s.pe ∧ (s.dequeue r).gd = s.gd ∧ (s.dequeue r).am = s.am ∧
    (s.dequeue r).ps = s.ps ∧ (s.dequeue r).au = s.au ∧ (s.dequeue r).rp = s.rp ∧ (s.dequeue r).free = s.free ∧
    (s.dequeue r).pending = s.pending := by
  simp [State.dequeue]

/-- `makeRoom` changes nothing but lc. -/
@[simp] theorem State.makeRoom_frame :
    (s.makeRoom).pins = s.pins ∧ (s.makeRoom).station = s.station ∧ (s.makeRoom).params = s.params ∧
    (s.makeRoom).halted = s.halted ∧ (s.makeRoom).tb = s.tb ∧ (s.makeRoom).book = s.book ∧ (s.makeRoom).pr = s.pr ∧
    (s.makeRoom).ct = s.ct ∧ (s.makeRoom).pe = s.pe ∧ (s.makeRoom).gd = s.gd ∧ (s.makeRoom).am = s.am ∧ (s.makeRoom).ps = s.ps ∧
    (s.makeRoom).au = s.au ∧ (s.makeRoom).rp = s.rp ∧ (s.makeRoom).free = s.free ∧ (s.makeRoom).pending = s.pending := by
  unfold State.makeRoom
  repeat' split
  all_goals simp

/-- `enqueue` changes nothing but lc. -/
@[simp] theorem State.enqueue_frame (r : FrameRef) :
    (s.enqueue r).pins = s.pins ∧ (s.enqueue r).station = s.station ∧ (s.enqueue r).params = s.params ∧
    (s.enqueue r).halted = s.halted ∧ (s.enqueue r).tb = s.tb ∧ (s.enqueue r).book = s.book ∧ (s.enqueue r).pr = s.pr ∧
    (s.enqueue r).ct = s.ct ∧ (s.enqueue r).pe = s.pe ∧ (s.enqueue r).gd = s.gd ∧ (s.enqueue r).am = s.am ∧
    (s.enqueue r).ps = s.ps ∧ (s.enqueue r).au = s.au ∧ (s.enqueue r).rp = s.rp ∧ (s.enqueue r).free = s.free ∧
    (s.enqueue r).pending = s.pending := by
  simp [State.enqueue]

/-- `askClaim` changes nothing but lc. -/
@[simp] theorem State.askClaim_frame (t : Tag) :
    (s.askClaim t).pins = s.pins ∧ (s.askClaim t).station = s.station ∧ (s.askClaim t).params = s.params ∧
    (s.askClaim t).halted = s.halted ∧ (s.askClaim t).tb = s.tb ∧ (s.askClaim t).book = s.book ∧ (s.askClaim t).pr = s.pr ∧
    (s.askClaim t).ct = s.ct ∧ (s.askClaim t).pe = s.pe ∧ (s.askClaim t).gd = s.gd ∧ (s.askClaim t).am = s.am ∧
    (s.askClaim t).ps = s.ps ∧ (s.askClaim t).au = s.au ∧ (s.askClaim t).rp = s.rp ∧ (s.askClaim t).free = s.free ∧
    (s.askClaim t).pending = s.pending := by
  unfold State.askClaim
  repeat' split
  all_goals simp

/-- `askWithdraw` changes nothing but lc. -/
@[simp] theorem State.askWithdraw_frame (t : Tag) :
    (s.askWithdraw t).pins = s.pins ∧ (s.askWithdraw t).station = s.station ∧ (s.askWithdraw t).params = s.params ∧
    (s.askWithdraw t).halted = s.halted ∧ (s.askWithdraw t).tb = s.tb ∧ (s.askWithdraw t).book = s.book ∧
    (s.askWithdraw t).pr = s.pr ∧ (s.askWithdraw t).ct = s.ct ∧ (s.askWithdraw t).pe = s.pe ∧ (s.askWithdraw t).gd = s.gd ∧
    (s.askWithdraw t).am = s.am ∧ (s.askWithdraw t).ps = s.ps ∧ (s.askWithdraw t).au = s.au ∧ (s.askWithdraw t).rp = s.rp ∧
    (s.askWithdraw t).free = s.free ∧ (s.askWithdraw t).pending = s.pending := by
  simp [State.askWithdraw]

/-- `askBeacon` changes nothing but lc. -/
@[simp] theorem State.askBeacon_frame :
    (s.askBeacon).pins = s.pins ∧ (s.askBeacon).station = s.station ∧ (s.askBeacon).params = s.params ∧
    (s.askBeacon).halted = s.halted ∧ (s.askBeacon).tb = s.tb ∧ (s.askBeacon).book = s.book ∧ (s.askBeacon).pr = s.pr ∧
    (s.askBeacon).ct = s.ct ∧ (s.askBeacon).pe = s.pe ∧ (s.askBeacon).gd = s.gd ∧ (s.askBeacon).am = s.am ∧
    (s.askBeacon).ps = s.ps ∧ (s.askBeacon).au = s.au ∧ (s.askBeacon).rp = s.rp ∧ (s.askBeacon).free = s.free ∧
    (s.askBeacon).pending = s.pending := by
  simp [State.askBeacon]

/-- `askClaims` changes nothing but lc. -/
@[simp] theorem State.askClaims_frame (ts : List Tag) :
    (s.askClaims ts).pins = s.pins ∧ (s.askClaims ts).station = s.station ∧ (s.askClaims ts).params = s.params ∧
    (s.askClaims ts).halted = s.halted ∧ (s.askClaims ts).tb = s.tb ∧ (s.askClaims ts).book = s.book ∧ (s.askClaims ts).pr = s.pr ∧
    (s.askClaims ts).ct = s.ct ∧ (s.askClaims ts).pe = s.pe ∧ (s.askClaims ts).gd = s.gd ∧ (s.askClaims ts).am = s.am ∧
    (s.askClaims ts).ps = s.ps ∧ (s.askClaims ts).au = s.au ∧ (s.askClaims ts).rp = s.rp ∧ (s.askClaims ts).free = s.free ∧
    (s.askClaims ts).pending = s.pending := by
  induction ts generalizing s with
  | nil => simp [State.askClaims]
  | cons t ts ih => simpa [State.askClaims] using ih (s.askClaim t)

/-- `catchUp` changes nothing but lc. -/
@[simp] theorem State.catchUp_frame :
    (s.catchUp).pins = s.pins ∧ (s.catchUp).station = s.station ∧ (s.catchUp).params = s.params ∧ (s.catchUp).halted = s.halted ∧
    (s.catchUp).tb = s.tb ∧ (s.catchUp).book = s.book ∧ (s.catchUp).pr = s.pr ∧ (s.catchUp).ct = s.ct ∧ (s.catchUp).pe = s.pe ∧
    (s.catchUp).gd = s.gd ∧ (s.catchUp).am = s.am ∧ (s.catchUp).ps = s.ps ∧ (s.catchUp).au = s.au ∧ (s.catchUp).rp = s.rp ∧
    (s.catchUp).free = s.free ∧ (s.catchUp).pending = s.pending := by
  simp [State.catchUp]

/-- `releaseHeldClaims` changes nothing but book, lc. -/
@[simp] theorem State.releaseHeldClaims_frame :
    (s.releaseHeldClaims).pins = s.pins ∧ (s.releaseHeldClaims).station = s.station ∧ (s.releaseHeldClaims).params = s.params ∧
    (s.releaseHeldClaims).halted = s.halted ∧ (s.releaseHeldClaims).tb = s.tb ∧ (s.releaseHeldClaims).pr = s.pr ∧
    (s.releaseHeldClaims).ct = s.ct ∧ (s.releaseHeldClaims).pe = s.pe ∧ (s.releaseHeldClaims).gd = s.gd ∧
    (s.releaseHeldClaims).am = s.am ∧ (s.releaseHeldClaims).ps = s.ps ∧ (s.releaseHeldClaims).au = s.au ∧
    (s.releaseHeldClaims).rp = s.rp ∧ (s.releaseHeldClaims).free = s.free ∧ (s.releaseHeldClaims).pending = s.pending := by
  simp [State.releaseHeldClaims]

/-- `putBack` changes nothing but lc. -/
@[simp] theorem State.putBack_frame (f : QueuedFrame) :
    (s.putBack f).pins = s.pins ∧ (s.putBack f).station = s.station ∧ (s.putBack f).params = s.params ∧
    (s.putBack f).halted = s.halted ∧ (s.putBack f).tb = s.tb ∧ (s.putBack f).book = s.book ∧ (s.putBack f).pr = s.pr ∧
    (s.putBack f).ct = s.ct ∧ (s.putBack f).pe = s.pe ∧ (s.putBack f).gd = s.gd ∧ (s.putBack f).am = s.am ∧
    (s.putBack f).ps = s.ps ∧ (s.putBack f).au = s.au ∧ (s.putBack f).rp = s.rp ∧ (s.putBack f).free = s.free ∧
    (s.putBack f).pending = s.pending := by
  simp [State.putBack]

/-- `returnFrame` changes nothing but lc. -/
@[simp] theorem State.returnFrame_frame (f : QueuedFrame) :
    (s.returnFrame f).pins = s.pins ∧ (s.returnFrame f).station = s.station ∧ (s.returnFrame f).params = s.params ∧
    (s.returnFrame f).halted = s.halted ∧ (s.returnFrame f).tb = s.tb ∧ (s.returnFrame f).book = s.book ∧
    (s.returnFrame f).pr = s.pr ∧ (s.returnFrame f).ct = s.ct ∧ (s.returnFrame f).pe = s.pe ∧ (s.returnFrame f).gd = s.gd ∧
    (s.returnFrame f).am = s.am ∧ (s.returnFrame f).ps = s.ps ∧ (s.returnFrame f).au = s.au ∧ (s.returnFrame f).rp = s.rp ∧
    (s.returnFrame f).free = s.free ∧ (s.returnFrame f).pending = s.pending := by
  unfold State.returnFrame
  repeat' split
  all_goals simp

/-- `stopContending` changes nothing but lc. -/
@[simp] theorem State.stopContending_frame :
    (s.stopContending).pins = s.pins ∧ (s.stopContending).station = s.station ∧ (s.stopContending).params = s.params ∧
    (s.stopContending).halted = s.halted ∧ (s.stopContending).tb = s.tb ∧ (s.stopContending).book = s.book ∧
    (s.stopContending).pr = s.pr ∧ (s.stopContending).ct = s.ct ∧ (s.stopContending).pe = s.pe ∧ (s.stopContending).gd = s.gd ∧
    (s.stopContending).am = s.am ∧ (s.stopContending).ps = s.ps ∧ (s.stopContending).au = s.au ∧ (s.stopContending).rp = s.rp ∧
    (s.stopContending).free = s.free ∧ (s.stopContending).pending = s.pending := by
  simp [State.stopContending]

/-- `checkContender` changes nothing but lc. -/
@[simp] theorem State.checkContender_frame :
    (s.checkContender).pins = s.pins ∧ (s.checkContender).station = s.station ∧ (s.checkContender).params = s.params ∧
    (s.checkContender).halted = s.halted ∧ (s.checkContender).tb = s.tb ∧ (s.checkContender).book = s.book ∧
    (s.checkContender).pr = s.pr ∧ (s.checkContender).ct = s.ct ∧ (s.checkContender).pe = s.pe ∧ (s.checkContender).gd = s.gd ∧
    (s.checkContender).am = s.am ∧ (s.checkContender).ps = s.ps ∧ (s.checkContender).au = s.au ∧ (s.checkContender).rp = s.rp ∧
    (s.checkContender).free = s.free ∧ (s.checkContender).pending = s.pending := by
  unfold State.checkContender
  repeat' split
  all_goals simp

end Sys2Proof.Machine
end

