-- ==== Sys2Proof/Laws/FrameCommit.lean ====
section
/-! SUPPORT. What each shared operation over commits, the ends of occurrences and the late test leaves unchanged, block by block. -/

namespace Sys2Proof.Machine

variable (s : State)

/-- `updateEntry` changes nothing but book. -/
@[simp] theorem State.updateEntry_frame (t : Tag) (f : Entry → Entry) :
    (s.updateEntry t f).pins = s.pins ∧ (s.updateEntry t f).station = s.station ∧ (s.updateEntry t f).params = s.params ∧
    (s.updateEntry t f).halted = s.halted ∧ (s.updateEntry t f).tb = s.tb ∧ (s.updateEntry t f).pr = s.pr ∧
    (s.updateEntry t f).ct = s.ct ∧ (s.updateEntry t f).pe = s.pe ∧ (s.updateEntry t f).gd = s.gd ∧ (s.updateEntry t f).am = s.am ∧
    (s.updateEntry t f).lc = s.lc ∧ (s.updateEntry t f).ps = s.ps ∧ (s.updateEntry t f).au = s.au ∧ (s.updateEntry t f).rp = s.rp ∧
    (s.updateEntry t f).free = s.free ∧ (s.updateEntry t f).pending = s.pending := by
  simp [State.updateEntry]

/-- `removeEntry` changes nothing but book. -/
@[simp] theorem State.removeEntry_frame (t : Tag) :
    (s.removeEntry t).pins = s.pins ∧ (s.removeEntry t).station = s.station ∧ (s.removeEntry t).params = s.params ∧
    (s.removeEntry t).halted = s.halted ∧ (s.removeEntry t).tb = s.tb ∧ (s.removeEntry t).pr = s.pr ∧ (s.removeEntry t).ct = s.ct ∧
    (s.removeEntry t).pe = s.pe ∧ (s.removeEntry t).gd = s.gd ∧ (s.removeEntry t).am = s.am ∧ (s.removeEntry t).lc = s.lc ∧
    (s.removeEntry t).ps = s.ps ∧ (s.removeEntry t).au = s.au ∧ (s.removeEntry t).rp = s.rp ∧ (s.removeEntry t).free = s.free ∧
    (s.removeEntry t).pending = s.pending := by
  simp [State.removeEntry]

/-- `occurrenceEnds` changes nothing but book, au, rp, lc. -/
@[simp] theorem State.occurrenceEnds_frame (t : Tag) :
    (s.occurrenceEnds t).pins = s.pins ∧ (s.occurrenceEnds t).station = s.station ∧ (s.occurrenceEnds t).params = s.params ∧
    (s.occurrenceEnds t).halted = s.halted ∧ (s.occurrenceEnds t).tb = s.tb ∧ (s.occurrenceEnds t).pr = s.pr ∧
    (s.occurrenceEnds t).ct = s.ct ∧ (s.occurrenceEnds t).pe = s.pe ∧ (s.occurrenceEnds t).gd = s.gd ∧
    (s.occurrenceEnds t).am = s.am ∧ (s.occurrenceEnds t).ps = s.ps ∧ (s.occurrenceEnds t).free = s.free ∧
    (s.occurrenceEnds t).pending = s.pending := by
  unfold State.occurrenceEnds
  repeat' split
  all_goals simp

/-- `applyDecision` changes nothing but book, au, rp, lc. -/
@[simp] theorem State.applyDecision_frame (e : Entry) (d : Decision) :
    (s.applyDecision e d).pins = s.pins ∧ (s.applyDecision e d).station = s.station ∧ (s.applyDecision e d).params = s.params ∧
    (s.applyDecision e d).halted = s.halted ∧ (s.applyDecision e d).tb = s.tb ∧ (s.applyDecision e d).pr = s.pr ∧
    (s.applyDecision e d).ct = s.ct ∧ (s.applyDecision e d).pe = s.pe ∧ (s.applyDecision e d).gd = s.gd ∧
    (s.applyDecision e d).am = s.am ∧ (s.applyDecision e d).ps = s.ps ∧ (s.applyDecision e d).free = s.free ∧
    (s.applyDecision e d).pending = s.pending := by
  cases d <;> simp [State.applyDecision]

/-- `commit` changes nothing but book, au, rp, lc. -/
@[simp] theorem State.commit_frame (e : Entry) :
    (s.commit e).pins = s.pins ∧ (s.commit e).station = s.station ∧ (s.commit e).params = s.params ∧
    (s.commit e).halted = s.halted ∧ (s.commit e).tb = s.tb ∧ (s.commit e).pr = s.pr ∧ (s.commit e).ct = s.ct ∧
    (s.commit e).pe = s.pe ∧ (s.commit e).gd = s.gd ∧ (s.commit e).am = s.am ∧ (s.commit e).ps = s.ps ∧
    (s.commit e).free = s.free ∧ (s.commit e).pending = s.pending := by
  simp [State.commit]

/-- `commitLinks` changes nothing but book, au, rp, lc. -/
@[simp] theorem State.commitLinks_frame (t : Tag) (n : Nat) :
    (State.commitLinks t n s).pins = s.pins ∧ (State.commitLinks t n s).station = s.station ∧
    (State.commitLinks t n s).params = s.params ∧ (State.commitLinks t n s).halted = s.halted ∧
    (State.commitLinks t n s).tb = s.tb ∧ (State.commitLinks t n s).pr = s.pr ∧ (State.commitLinks t n s).ct = s.ct ∧
    (State.commitLinks t n s).pe = s.pe ∧ (State.commitLinks t n s).gd = s.gd ∧ (State.commitLinks t n s).am = s.am ∧
    (State.commitLinks t n s).ps = s.ps ∧ (State.commitLinks t n s).free = s.free ∧ (State.commitLinks t n s).pending = s.pending := by
  induction n generalizing s with
  | zero => simp [State.commitLinks]
  | succ n ih =>
    unfold State.commitLinks
    split
    · simp
    · split
      · next e _ _ => simpa using ih (s.commit e)
      · simp

/-- `commitWhileDue` changes nothing but book, au, rp, lc. -/
@[simp] theorem State.commitWhileDue_frame (t : Tag) :
    (s.commitWhileDue t).pins = s.pins ∧ (s.commitWhileDue t).station = s.station ∧ (s.commitWhileDue t).params = s.params ∧
    (s.commitWhileDue t).halted = s.halted ∧ (s.commitWhileDue t).tb = s.tb ∧ (s.commitWhileDue t).pr = s.pr ∧
    (s.commitWhileDue t).ct = s.ct ∧ (s.commitWhileDue t).pe = s.pe ∧ (s.commitWhileDue t).gd = s.gd ∧
    (s.commitWhileDue t).am = s.am ∧ (s.commitWhileDue t).ps = s.ps ∧ (s.commitWhileDue t).free = s.free ∧
    (s.commitWhileDue t).pending = s.pending := by
  unfold State.commitWhileDue
  repeat' split
  all_goals simp

/-- `endOccurrence` changes nothing but book, au, rp, lc. -/
@[simp] theorem State.endOccurrence_frame (t : Tag) :
    (s.endOccurrence t).pins = s.pins ∧ (s.endOccurrence t).station = s.station ∧ (s.endOccurrence t).params = s.params ∧
    (s.endOccurrence t).halted = s.halted ∧ (s.endOccurrence t).tb = s.tb ∧ (s.endOccurrence t).pr = s.pr ∧
    (s.endOccurrence t).ct = s.ct ∧ (s.endOccurrence t).pe = s.pe ∧ (s.endOccurrence t).gd = s.gd ∧ (s.endOccurrence t).am = s.am ∧
    (s.endOccurrence t).ps = s.ps ∧ (s.endOccurrence t).free = s.free ∧ (s.endOccurrence t).pending = s.pending := by
  simp [State.endOccurrence]

/-- `lateCommitted` changes nothing but book, au, rp, lc. -/
@[simp] theorem State.lateCommitted_frame (e : Entry) (p : Placement) (a : Int) :
    (s.lateCommitted e p a).pins = s.pins ∧ (s.lateCommitted e p a).station = s.station ∧
    (s.lateCommitted e p a).params = s.params ∧ (s.lateCommitted e p a).halted = s.halted ∧ (s.lateCommitted e p a).tb = s.tb ∧
    (s.lateCommitted e p a).pr = s.pr ∧ (s.lateCommitted e p a).ct = s.ct ∧ (s.lateCommitted e p a).pe = s.pe ∧
    (s.lateCommitted e p a).gd = s.gd ∧ (s.lateCommitted e p a).am = s.am ∧ (s.lateCommitted e p a).ps = s.ps ∧
    (s.lateCommitted e p a).free = s.free ∧ (s.lateCommitted e p a).pending = s.pending := by
  simp only [State.lateCommitted]
  repeat' split
  all_goals simp

/-- `lateActive` changes nothing but book, au, rp, lc. -/
@[simp] theorem State.lateActive_frame (e : Entry) (p : Placement) (a : Int) :
    (s.lateActive e p a).pins = s.pins ∧ (s.lateActive e p a).station = s.station ∧ (s.lateActive e p a).params = s.params ∧
    (s.lateActive e p a).halted = s.halted ∧ (s.lateActive e p a).tb = s.tb ∧ (s.lateActive e p a).pr = s.pr ∧
    (s.lateActive e p a).ct = s.ct ∧ (s.lateActive e p a).pe = s.pe ∧ (s.lateActive e p a).gd = s.gd ∧
    (s.lateActive e p a).am = s.am ∧ (s.lateActive e p a).ps = s.ps ∧ (s.lateActive e p a).free = s.free ∧
    (s.lateActive e p a).pending = s.pending := by
  simp only [State.lateActive]
  repeat' split
  all_goals simp

/-- `lateTestOne` changes nothing but book, au, rp, lc. -/
@[simp] theorem State.lateTestOne_frame (c : ClaimEntry) (t : Tag) :
    (State.lateTestOne c s t).pins = s.pins ∧ (State.lateTestOne c s t).station = s.station ∧
    (State.lateTestOne c s t).params = s.params ∧ (State.lateTestOne c s t).halted = s.halted ∧
    (State.lateTestOne c s t).tb = s.tb ∧ (State.lateTestOne c s t).pr = s.pr ∧ (State.lateTestOne c s t).ct = s.ct ∧
    (State.lateTestOne c s t).pe = s.pe ∧ (State.lateTestOne c s t).gd = s.gd ∧ (State.lateTestOne c s t).am = s.am ∧
    (State.lateTestOne c s t).ps = s.ps ∧ (State.lateTestOne c s t).free = s.free ∧ (State.lateTestOne c s t).pending = s.pending := by
  unfold State.lateTestOne
  repeat' split
  all_goals simp

/-- `lateTest` changes nothing but book, au, rp, lc. -/
@[simp] theorem State.lateTest_frame (c : ClaimEntry) :
    (s.lateTest c).pins = s.pins ∧ (s.lateTest c).station = s.station ∧ (s.lateTest c).params = s.params ∧
    (s.lateTest c).halted = s.halted ∧ (s.lateTest c).tb = s.tb ∧ (s.lateTest c).pr = s.pr ∧ (s.lateTest c).ct = s.ct ∧
    (s.lateTest c).pe = s.pe ∧ (s.lateTest c).gd = s.gd ∧ (s.lateTest c).am = s.am ∧ (s.lateTest c).ps = s.ps ∧
    (s.lateTest c).free = s.free ∧ (s.lateTest c).pending = s.pending := by
  unfold State.lateTest
  generalize s.bookOrder.map Entry.tag = ts
  induction ts generalizing s with
  | nil => simp
  | cons t ts ih => simpa using ih (State.lateTestOne c s t)

end Sys2Proof.Machine
end

