-- ==== Sys2Proof/Laws/Flags.lean ====
section
/-! SUPPORT. Alarm flags as members of a flag set: how a set answers after a raise and after a clear. -/

namespace Sys2Proof.Machine

/-- A flag stands in a set when its bit is set. -/
theorem Alarm.inSet_getLsbD (a : Alarm) (f : FlagSet) : a.inSet f = f.getLsbD (a.number - 1) := by
  have ht : 1#11 <<< (a.number - 1) = BitVec.twoPow 11 (a.number - 1) := rfl
  have hn : BitVec.twoPow 11 (a.number - 1) ≠ 0#11 := by cases a <;> decide
  unfold Alarm.inSet Alarm.bit
  rw [ht, BitVec.and_twoPow]
  cases f.getLsbD (a.number - 1)
  · rfl
  · simpa using hn

/-- A flag set of one flag holds that flag alone. -/
theorem Alarm.inSet_bit (x a : Alarm) : x.inSet a.bit = (x == a) := by
  cases x <;> cases a <;> decide

/-- A raise adds one flag to the set (R180). -/
theorem Alarm.inSet_or (x : Alarm) (f g : FlagSet) : x.inSet (f ||| g) = (x.inSet f || x.inSet g) := by
  simp [Alarm.inSet_getLsbD]

/-- The flags that two sets share. -/
theorem Alarm.inSet_and (x : Alarm) (f g : FlagSet) : x.inSet (f &&& g) = (x.inSet f && x.inSet g) := by
  simp [Alarm.inSet_getLsbD]

/-- A clear takes the flags of one set out of another (R182). -/
theorem Alarm.inSet_not (x : Alarm) (f : FlagSet) : x.inSet (~~~f) = !x.inSet f := by
  have : x.number - 1 < 11 := by cases x <;> decide
  simp [Alarm.inSet_getLsbD, this]

/-- No flag stands in the empty set. -/
theorem Alarm.inSet_zero (x : Alarm) : x.inSet 0 = false := by
  simp [Alarm.inSet_getLsbD]

end Sys2Proof.Machine
end

