-- ==== Sys2Proof/Laws/Notices.lean ====
section
/-! SUPPORT. Notices and alarm raises act on AU and RP and read nothing else, so that they commute with a change of any other block; and
everything that each of them can do. -/

namespace Sys2Proof.Machine

variable (s : State)

/-- A new raise acts on AU and RP, and reads nothing else (R185). -/
theorem alertNewRaise_congr {s t : State} (ha : t.au = s.au) (hr : t.rp = s.rp) :
    t.alertNewRaise.au = s.alertNewRaise.au ∧ t.alertNewRaise.rp = s.alertNewRaise.rp := by
  have hf : t.freeNotices = s.freeNotices := by rw [State.freeNotices, State.freeNotices, hr]
  have hc : t.alertComposed = s.alertComposed := by rw [State.alertComposed, State.alertComposed, hr]
  unfold State.alertNewRaise
  rw [ha, hf, hc]
  split
  · by_cases h : 1 ≤ s.freeNotices
    · simp [h, ha, hr, State.pushNotice]
    · simp [h, ha, hr]
  · by_cases h : s.alertComposed = true
    · simp [h, ha, hr]
    · simp [h, ha, hr]
  · exact ⟨ha, hr⟩

/-- A raise acts on AU and RP, and reads nothing else (R180, R185, R187). -/
theorem raiseAlarm_congr {s t : State} (a : Alarm) (ha : t.au = s.au) (hr : t.rp = s.rp) :
    (t.raiseAlarm a).au = (s.raiseAlarm a).au ∧ (t.raiseAlarm a).rp = (s.raiseAlarm a).rp := by
  have hn := alertNewRaise_congr (s := s.onAu fun u => { u with flags := u.flags ||| a.bit })
    (t := t.onAu fun u => { u with flags := u.flags ||| a.bit }) (by simp [ha]) (by simpa using hr)
  unfold State.raiseAlarm
  rw [ha]
  by_cases h : a.inSet s.au.flags = true
  · simp [h, ha, hr]
  · by_cases h' : a.inSet s.au.alertMask = true
    · simp [h, h', ha, hr, State.workOutHold]
    · simp [h, h', hn, State.workOutHold]

/-- Counting an overrun reads AU and RP alone. -/
theorem countOverrun_congr {s t : State} (ha : t.au = s.au) (hr : t.rp = s.rp) :
    t.countOverrun.au = s.countOverrun.au ∧ t.countOverrun.rp = s.countOverrun.rp :=
  raiseAlarm_congr _ (by simp [ha]) (by simpa using hr)

/-- A counted loss acts on AU and RP, and reads nothing else (R195). -/
theorem noticeLost_congr {s t : State} (ha : t.au = s.au) (hr : t.rp = s.rp) :
    t.noticeLost.au = s.noticeLost.au ∧ t.noticeLost.rp = s.noticeLost.rp :=
  raiseAlarm_congr _ (by simp [ha]) (by simpa using hr)

/-- An offer acts on AU and RP, and reads nothing else (R195). -/
theorem offerNotice_congr {s t : State} (n : Notice) (ha : t.au = s.au) (hr : t.rp = s.rp) :
    (t.offerNotice n).au = (s.offerNotice n).au ∧ (t.offerNotice n).rp = (s.offerNotice n).rp := by
  have hf : t.freeNotices = s.freeNotices := by rw [State.freeNotices, State.freeNotices, hr]
  unfold State.offerNotice
  rw [hf]
  split
  · simp [State.pushNotice, ha, hr]
  · exact noticeLost_congr ha hr

/-- A raise changes AU and RP alone. -/
theorem raiseAlarm_eq (a : Alarm) : s.raiseAlarm a = { s with au := (s.raiseAlarm a).au, rp := (s.raiseAlarm a).rp } := by
  apply State.eq_of_blocks <;> simp

/-- An offer changes AU and RP alone. -/
theorem offerNotice_eq (n : Notice) : s.offerNotice n = { s with au := (s.offerNotice n).au, rp := (s.offerNotice n).rp } := by
  apply State.eq_of_blocks <;> simp

end Sys2Proof.Machine
end

