-- ==== Sys2Proof/Laws/Reads.lean ====
section
/-! SUPPORT. What each function that reads the state rests on: two states that agree there give one answer. -/

namespace Sys2Proof.Machine

variable {s t : State}

/-- The part state rests on the halted mark and PE. -/
theorem part_congr (hh : t.halted = s.halted) (hp : t.pe = s.pe) : t.part = s.part := by
  rw [State.part, State.part, hh, hp]

/-- So does being joined. -/
theorem joined_congr (hh : t.halted = s.halted) (hp : t.pe = s.pe) : t.joined = s.joined := by
  rw [State.joined, State.joined, part_congr hh hp]

/-- A signed distance rests on local time. -/
theorem distance_congr (ht : t.tb.localTime = s.tb.localTime) : t.distance = s.distance := by
  funext p
  rw [State.distance, State.distance, State.now, State.now, ht]

/-- Being due rests on local time. -/
theorem due_congr (ht : t.tb.localTime = s.tb.localTime) : t.due = s.due := by
  funext p
  rw [State.due, State.due, distance_congr ht]

/-- Being due rests on local time, for an optional point. -/
theorem dueSome_congr (ht : t.tb.localTime = s.tb.localTime) : t.dueSome = s.dueSome := by
  funext p
  rw [State.dueSome.eq_def, State.dueSome.eq_def, due_congr ht]

/-- Finding an entry rests on the book. -/
theorem findEntry_congr (hb : t.book = s.book) : t.findEntry = s.findEntry := by
  funext tag
  rw [State.findEntry, State.findEntry, hb]

/-- Insertion in book order rests on local time. -/
theorem insertInBookOrder_congr (ht : t.tb.localTime = s.tb.localTime) : t.insertInBookOrder = s.insertInBookOrder := by
  have hb : t.bookBefore = s.bookBefore := by
    funext a b
    rw [State.bookBefore, State.bookBefore, distance_congr ht]
  funext e l
  induction l with
  | nil => rfl
  | cons x xs ih => rw [State.insertInBookOrder, State.insertInBookOrder, hb, ih]

/-- Book order rests on the book and local time. -/
theorem bookOrder_congr (hb : t.book = s.book) (ht : t.tb.localTime = s.tb.localTime) : t.bookOrder = s.bookOrder := by
  rw [State.bookOrder, State.bookOrder, hb, insertInBookOrder_congr ht]

/-- The contents of the profile in force rest on PS. -/
theorem profile_congr (hp : t.ps = s.ps) : t.profile = s.profile := by
  rw [State.profile, State.profile, hp]

/-- The demotion of a request rests on the book, the profile in force and E (R17). -/
theorem demotes_congr (hp : t.ps = s.ps) (hb : t.book = s.book) (ht : t.tb.epochLength = s.tb.epochLength) : t.demotes = s.demotes := by
  funext q
  rw [State.demotes, State.demotes, profile_congr hp, State.criticalLoads, State.criticalLoads, hb, ht]

/-- Finding a record rests on PR. -/
theorem findPeer_congr (hp : t.pr.records = s.pr.records) : t.findPeer = s.findPeer := by
  funext st
  rw [State.findPeer, State.findPeer, hp]

/-- Finding a claim rests on CT. -/
theorem findClaim_congr (hc : t.ct = s.ct) : t.findClaim = s.findClaim := by
  funext st tag
  rw [State.findClaim, State.findClaim, hc]

/-- The margin rate rests on the monitor state (R75). -/
theorem marginRate_congr (hm : t.tb.monitor = s.tb.monitor) : t.marginRate = s.marginRate := by
  funext r
  rw [State.marginRate, State.marginRate, hm]

/-- An expiry point rests on PR and the monitor state (R71). -/
theorem expiryOf_congr (hp : t.pr.records = s.pr.records) (hm : t.tb.monitor = s.tb.monitor) : t.expiryOf = s.expiryOf := by
  funext c
  rw [State.expiryOf.eq_def, State.expiryOf.eq_def, findPeer_congr hp, marginRate_congr hm]

/-- What a key kind rests on: the book and local time (R65). -/
theorem keyKind_congr (hb : t.book = s.book) (ht : t.tb.localTime = s.tb.localTime) : t.keyKind = s.keyKind := by
  funext r
  rw [State.keyKind.eq_def, State.keyKind.eq_def, findEntry_congr hb, distance_congr ht]

/-- The order of the transmit queue rests on the book and local time (R155). -/
theorem firstOf_congr (hb : t.book = s.book) (ht : t.tb.localTime = s.tb.localTime) : t.firstOf = s.firstOf := by
  have ha : t.aheadOf = s.aheadOf := by
    funext a b
    rw [State.aheadOf, State.aheadOf, keyKind_congr hb ht]
  funext l
  induction l with
  | nil => rfl
  | cons f rest ih => rw [State.firstOf, State.firstOf, ih, ha]

/-- The head frame rests on the queue, the book and local time (R151). -/
theorem headFrame_congr (hq : t.lc.queue = s.lc.queue) (hb : t.book = s.book) (ht : t.tb.localTime = s.tb.localTime) :
    t.headFrame = s.headFrame := by
  rw [State.headFrame, State.headFrame, firstOf_congr hb ht, hq]

/-- The blocking intervals of one claim entry rest on PR, PS, PE's ranking credit, the station number and TB (R87). -/
theorem blockingOf_congr (hr : t.pr.records = s.pr.records) (hs : t.ps = s.ps) (hc : t.pe.rankingCredit = s.pe.rankingCredit)
    (hn : t.station = s.station) (ht : t.tb = s.tb) : t.blockingOf = s.blockingOf := by
  have ho : t.occupiedFromNow = s.occupiedFromNow := by
    funext r c j
    rw [State.occupiedFromNow, State.occupiedFromNow, marginRate_congr (s := s) (t := t) (by rw [ht]), distance_congr (s := s) (t := t) (by rw [ht])]
  have hrun : t.runBound = s.runBound := by
    funext c g e
    rw [State.runBound, State.runBound, distance_congr (s := s) (t := t) (by rw [ht])]
  have hrank : t.ownRank = s.ownRank := by
    funext x
    rw [State.ownRank, State.ownRank, hc, hn]
  funext x own c
  rw [State.blockingOf.eq_def, State.blockingOf.eq_def, findPeer_congr hr, profile_congr hs, ho, hrun, hrank]

/-- The decision of a commit rests on the halted mark, PE, CT, PR, PS, the station number and TB (R97 to R103). -/
theorem decide_congr (hh : t.halted = s.halted) (hp : t.pe = s.pe) (hc : t.ct = s.ct) (hr : t.pr.records = s.pr.records) (hs : t.ps = s.ps)
    (hn : t.station = s.station) (ht : t.tb = s.tb) : t.decide = s.decide := by
  funext e
  have hb : t.blocking = s.blocking := by
    funext x own
    rw [State.blocking, State.blocking, blockingOf_congr (s := s) (t := t) hr hs (by rw [hp]) hn ht, hc]
  unfold State.decide
  rw [part_congr hh hp, distance_congr (s := s) (t := t) (by rw [ht]), hb]

end Sys2Proof.Machine
end

