-- ==== Sys2Proof/Laws/Book.lean ====
section
/-! SUPPORT. The book after a change of the entries with one tag, the chain of immediate commits, and book
order. -/

namespace Sys2Proof.Machine

variable {s : State} {tag : Tag} {e : Entry}

/-- An entry found carries the tag looked for. -/
theorem findEntry_tag (h : s.findEntry tag = some e) : e.tag = tag := by
  simpa using List.find?_some h

/-- An entry found stands in the book. -/
theorem findEntry_mem (h : s.findEntry tag = some e) : e ∈ s.book := List.mem_of_find?_eq_some h

/-- A list in which the entries with one tag were changed, tag kept, gives the changed entry. -/
theorem find_map_tag {l : List Entry} (f : Entry → Entry) (hf : ∀ x : Entry, (f x).tag = x.tag)
    (h : l.find? (fun x => x.tag == tag) = some e) :
    (l.map fun x => if x.tag == tag then f x else x).find? (fun x => x.tag == tag) = some (f e) := by
  induction l with
  | nil => simp at h
  | cons x xs ih =>
    by_cases hx : x.tag = tag
    · simp only [List.find?_cons, hx, BEq.rfl] at h
      cases h
      simp [hf, hx]
    · have hb : (x.tag == tag) = false := by simpa using hx
      rw [List.find?_cons, hb] at h
      rw [List.map_cons, hb, if_neg (by simp), List.find?_cons, hb]
      exact ih h

/-- The entry found after a change of the entries with its tag. -/
theorem findEntry_updateEntry (f : Entry → Entry) (hf : ∀ x : Entry, (f x).tag = x.tag) (h : s.findEntry tag = some e) :
    (s.updateEntry tag f).findEntry tag = some (f e) := find_map_tag f hf h

/-- No entry is found after the entries with a tag have left. -/
theorem findEntry_removeEntry : (s.removeEntry tag).findEntry tag = none := by
  simp [State.findEntry, State.removeEntry]

/-- Where a tag is that of one entry alone, a change of the entries with the tag is a change of that entry. -/
theorem map_tag_unique {l : List Entry} (f : Entry → Entry) (h : ∀ x ∈ l, x.tag = tag → x = e) :
    (l.map fun x => if x.tag == tag then f x else x) = l.map fun x => if x.tag = tag then f e else x := by
  apply List.map_congr_left
  intro x hx
  by_cases ht : x.tag = tag
  · simp [h x hx ht]
  · simp [ht]

/-- A notice offered and a change of the book commute. -/
theorem offerNotice_onBook (f : List Entry → List Entry) (n : Notice) :
    (s.onBook f).offerNotice n = { s.offerNotice n with book := f s.book } := by
  have h := offerNotice_congr (s := s) (t := s.onBook f) n rfl rfl
  apply State.eq_of_blocks <;> simp [h]

/-- No commit is made while the entry found, if any, has none due. -/
theorem commitWhileDue_stop (h : ∀ e, s.findEntry tag = some e → s.commitDue e = false) : s.commitWhileDue tag = s := by
  unfold State.commitWhileDue
  cases hf : s.findEntry tag with
  | none => rfl
  | some e =>
    dsimp only
    unfold State.linkBound
    rw [State.commitLinks, hf]
    simp [h e hf]

/-- One commit is made when the entry found has one due and none is due after it. -/
theorem commitWhileDue_once (hf : s.findEntry tag = some e) (hd : s.commitDue e = true)
    (h : ∀ e', (s.commit e).findEntry tag = some e' → (s.commit e).commitDue e' = false) : s.commitWhileDue tag = s.commit e := by
  unfold State.commitWhileDue
  rw [hf]
  dsimp only
  unfold State.linkBound
  rw [State.commitLinks, hf]
  simp only [hd, if_true]
  generalize ((s.params.lead : Int) - s.distance e.windowStart).toNat / e.request.period.getD 1 = n
  cases n with
  | zero => rfl
  | succ n =>
    rw [State.commitLinks]
    cases hf' : (s.commit e).findEntry tag with
    | none => rfl
    | some e' => simp [h e' hf']

/-! ## Book order -/

/-- An entry put into its place adds that entry and no other. -/
theorem insertInBookOrder_perm (e : Entry) (l : List Entry) : (s.insertInBookOrder e l).Perm (e :: l) := by
  induction l with
  | nil => exact .refl _
  | cons x xs ih =>
    unfold State.insertInBookOrder
    split
    · exact .refl _
    · exact (ih.cons x).trans (.swap e x xs)

/-- Book order holds the standing entries, each as often as the book does (R20). -/
theorem bookOrder_perm : s.bookOrder.Perm (s.book.filter Entry.standing) := by
  unfold State.bookOrder
  induction s.book.filter Entry.standing with
  | nil => exact .refl _
  | cons e l ih => exact (insertInBookOrder_perm e _).trans (ih.cons e)

/-- An entry put into its place of a list in book order leaves it in book order. -/
theorem insertInBookOrder_sorted (e : Entry) {l : List Entry} (h : l.Pairwise fun a b => s.bookBefore a b = true) :
    (s.insertInBookOrder e l).Pairwise fun a b => s.bookBefore a b = true := by
  have total : ∀ a b, s.bookBefore a b = false → s.bookBefore b a = true := by
    intro a b
    simp only [State.bookBefore, Bool.or_eq_false_iff, Bool.and_eq_false_iff, decide_eq_false_iff_not, beq_eq_false_iff_ne,
      Bool.or_eq_true, Bool.and_eq_true, decide_eq_true_eq, beq_iff_eq]
    omega
  have trans : ∀ a b c, s.bookBefore a b = true → s.bookBefore b c = true → s.bookBefore a c = true := by
    intro a b c
    simp only [State.bookBefore, Bool.or_eq_true, Bool.and_eq_true, decide_eq_true_eq, beq_iff_eq]
    omega
  induction l with
  | nil => simp [State.insertInBookOrder]
  | cons x xs ih =>
    rw [List.pairwise_cons] at h
    unfold State.insertInBookOrder
    split
    · rename_i hx
      refine List.pairwise_cons.2 ⟨fun y hy => ?_, List.pairwise_cons.2 h⟩
      rcases List.mem_cons.1 hy with rfl | hy
      · exact hx
      · exact trans _ _ _ hx (h.1 y hy)
    · rename_i hx
      refine List.pairwise_cons.2 ⟨fun y hy => ?_, ih h.2⟩
      rcases List.mem_cons.1 ((insertInBookOrder_perm e xs).mem_iff.1 hy) with rfl | hy
      · exact total _ _ (by simpa using hx)
      · exact h.1 y hy

/-- No entry of book order stands behind one that it comes before (R20). -/
theorem bookOrder_sorted : s.bookOrder.Pairwise fun a b => s.bookBefore a b = true := by
  unfold State.bookOrder
  induction s.book.filter Entry.standing with
  | nil => exact .nil
  | cons e l ih => exact insertInBookOrder_sorted e ih

end Sys2Proof.Machine
end

