-- ==== Sys2Proof/Laws/FrameClaims.lean ====
section
/-! SUPPORT. What each shared operation over the peer claim table leaves unchanged, block by block. -/

namespace Sys2Proof.Machine

variable (s : State)

/-- `removeClaim` changes nothing but ct. -/
@[simp] theorem State.removeClaim_frame (st : Station) (t : Tag) :
    (s.removeClaim st t).pins = s.pins ∧ (s.removeClaim st t).station = s.station ∧ (s.removeClaim st t).params = s.params ∧
    (s.removeClaim st t).halted = s.halted ∧ (s.removeClaim st t).tb = s.tb ∧ (s.removeClaim st t).book = s.book ∧
    (s.removeClaim st t).pr = s.pr ∧ (s.removeClaim st t).pe = s.pe ∧ (s.removeClaim st t).gd = s.gd ∧
    (s.removeClaim st t).am = s.am ∧ (s.removeClaim st t).lc = s.lc ∧ (s.removeClaim st t).ps = s.ps ∧
    (s.removeClaim st t).au = s.au ∧ (s.removeClaim st t).rp = s.rp ∧ (s.removeClaim st t).free = s.free ∧
    (s.removeClaim st t).pending = s.pending := by
  simp [State.removeClaim]

/-- `dropClaims` changes nothing but ct. -/
@[simp] theorem State.dropClaims_frame (st : Station) :
    (s.dropClaims st).pins = s.pins ∧ (s.dropClaims st).station = s.station ∧ (s.dropClaims st).params = s.params ∧
    (s.dropClaims st).halted = s.halted ∧ (s.dropClaims st).tb = s.tb ∧ (s.dropClaims st).book = s.book ∧
    (s.dropClaims st).pr = s.pr ∧ (s.dropClaims st).pe = s.pe ∧ (s.dropClaims st).gd = s.gd ∧ (s.dropClaims st).am = s.am ∧
    (s.dropClaims st).lc = s.lc ∧ (s.dropClaims st).ps = s.ps ∧ (s.dropClaims st).au = s.au ∧ (s.dropClaims st).rp = s.rp ∧
    (s.dropClaims st).free = s.free ∧ (s.dropClaims st).pending = s.pending := by
  simp [State.dropClaims]

/-- `recomputeExpiry` changes nothing but ct. -/
@[simp] theorem State.recomputeExpiry_frame (p : ClaimEntry → Bool) :
    (s.recomputeExpiry p).pins = s.pins ∧ (s.recomputeExpiry p).station = s.station ∧ (s.recomputeExpiry p).params = s.params ∧
    (s.recomputeExpiry p).halted = s.halted ∧ (s.recomputeExpiry p).tb = s.tb ∧ (s.recomputeExpiry p).book = s.book ∧
    (s.recomputeExpiry p).pr = s.pr ∧ (s.recomputeExpiry p).pe = s.pe ∧ (s.recomputeExpiry p).gd = s.gd ∧
    (s.recomputeExpiry p).am = s.am ∧ (s.recomputeExpiry p).lc = s.lc ∧ (s.recomputeExpiry p).ps = s.ps ∧
    (s.recomputeExpiry p).au = s.au ∧ (s.recomputeExpiry p).rp = s.rp ∧ (s.recomputeExpiry p).free = s.free ∧
    (s.recomputeExpiry p).pending = s.pending := by
  simp [State.recomputeExpiry]

/-- `evict` changes nothing but ct, au, rp. -/
@[simp] theorem State.evict_frame (st : Station) :
    (s.evict st).pins = s.pins ∧ (s.evict st).station = s.station ∧ (s.evict st).params = s.params ∧
    (s.evict st).halted = s.halted ∧ (s.evict st).tb = s.tb ∧ (s.evict st).book = s.book ∧ (s.evict st).pr = s.pr ∧
    (s.evict st).pe = s.pe ∧ (s.evict st).gd = s.gd ∧ (s.evict st).am = s.am ∧ (s.evict st).lc = s.lc ∧ (s.evict st).ps = s.ps ∧
    (s.evict st).free = s.free ∧ (s.evict st).pending = s.pending := by
  unfold State.evict
  repeat' split
  all_goals simp

/-- `putClaim` changes nothing but ct, au, rp. -/
@[simp] theorem State.putClaim_frame (c : ClaimEntry) :
    (s.putClaim c).pins = s.pins ∧ (s.putClaim c).station = s.station ∧ (s.putClaim c).params = s.params ∧
    (s.putClaim c).halted = s.halted ∧ (s.putClaim c).tb = s.tb ∧ (s.putClaim c).book = s.book ∧ (s.putClaim c).pr = s.pr ∧
    (s.putClaim c).pe = s.pe ∧ (s.putClaim c).gd = s.gd ∧ (s.putClaim c).am = s.am ∧ (s.putClaim c).lc = s.lc ∧
    (s.putClaim c).ps = s.ps ∧ (s.putClaim c).free = s.free ∧ (s.putClaim c).pending = s.pending := by
  unfold State.putClaim
  repeat' split
  all_goals simp

/-- `removeIfExpired` changes nothing but ct. -/
@[simp] theorem State.removeIfExpired_frame (c : ClaimEntry) :
    (s.removeIfExpired c).pins = s.pins ∧ (s.removeIfExpired c).station = s.station ∧ (s.removeIfExpired c).params = s.params ∧
    (s.removeIfExpired c).halted = s.halted ∧ (s.removeIfExpired c).tb = s.tb ∧ (s.removeIfExpired c).book = s.book ∧
    (s.removeIfExpired c).pr = s.pr ∧ (s.removeIfExpired c).pe = s.pe ∧ (s.removeIfExpired c).gd = s.gd ∧
    (s.removeIfExpired c).am = s.am ∧ (s.removeIfExpired c).lc = s.lc ∧ (s.removeIfExpired c).ps = s.ps ∧
    (s.removeIfExpired c).au = s.au ∧ (s.removeIfExpired c).rp = s.rp ∧ (s.removeIfExpired c).free = s.free ∧
    (s.removeIfExpired c).pending = s.pending := by
  unfold State.removeIfExpired
  repeat' split
  all_goals simp

/-- `takeClaimFrame` changes nothing but book, ct, au, rp, lc. -/
@[simp] theorem State.takeClaimFrame_frame (st : Station) (b : ClaimBody) (l : Time) :
    (s.takeClaimFrame st b l).pins = s.pins ∧ (s.takeClaimFrame st b l).station = s.station ∧
    (s.takeClaimFrame st b l).params = s.params ∧ (s.takeClaimFrame st b l).halted = s.halted ∧
    (s.takeClaimFrame st b l).tb = s.tb ∧ (s.takeClaimFrame st b l).pr = s.pr ∧ (s.takeClaimFrame st b l).pe = s.pe ∧
    (s.takeClaimFrame st b l).gd = s.gd ∧ (s.takeClaimFrame st b l).am = s.am ∧ (s.takeClaimFrame st b l).ps = s.ps ∧
    (s.takeClaimFrame st b l).free = s.free ∧ (s.takeClaimFrame st b l).pending = s.pending := by
  unfold State.takeClaimFrame
  repeat' split
  all_goals simp

end Sys2Proof.Machine
end

