-- ==== Sys2Proof/Laws/FramePeers.lean ====
section
/-! SUPPORT. What each shared operation over peer records leaves unchanged, block by block. -/

namespace Sys2Proof.Machine

variable (s : State)

/-- `updatePeer` changes nothing but pr. -/
@[simp] theorem State.updatePeer_frame (st : Station) (f : PeerRecord → PeerRecord) :
    (s.updatePeer st f).pins = s.pins ∧ (s.updatePeer st f).station = s.station ∧ (s.updatePeer st f).params = s.params ∧
    (s.updatePeer st f).halted = s.halted ∧ (s.updatePeer st f).tb = s.tb ∧ (s.updatePeer st f).book = s.book ∧
    (s.updatePeer st f).ct = s.ct ∧ (s.updatePeer st f).pe = s.pe ∧ (s.updatePeer st f).gd = s.gd ∧ (s.updatePeer st f).am = s.am ∧
    (s.updatePeer st f).lc = s.lc ∧ (s.updatePeer st f).ps = s.ps ∧ (s.updatePeer st f).au = s.au ∧ (s.updatePeer st f).rp = s.rp ∧
    (s.updatePeer st f).free = s.free ∧ (s.updatePeer st f).pending = s.pending := by
  simp [State.updatePeer]

/-- `recomputeStation` changes nothing but ct. -/
@[simp] theorem State.recomputeStation_frame (st : Station) :
    (s.recomputeStation st).pins = s.pins ∧ (s.recomputeStation st).station = s.station ∧
    (s.recomputeStation st).params = s.params ∧ (s.recomputeStation st).halted = s.halted ∧ (s.recomputeStation st).tb = s.tb ∧
    (s.recomputeStation st).book = s.book ∧ (s.recomputeStation st).pr = s.pr ∧ (s.recomputeStation st).pe = s.pe ∧
    (s.recomputeStation st).gd = s.gd ∧ (s.recomputeStation st).am = s.am ∧ (s.recomputeStation st).lc = s.lc ∧
    (s.recomputeStation st).ps = s.ps ∧ (s.recomputeStation st).au = s.au ∧ (s.recomputeStation st).rp = s.rp ∧
    (s.recomputeStation st).free = s.free ∧ (s.recomputeStation st).pending = s.pending := by
  simp [State.recomputeStation]

/-- `hear` changes nothing but pr, ct, lc. -/
@[simp] theorem State.hear_frame (st : Station) (l : Time) (t : PeerRecord → Nat) :
    (s.hear st l t).pins = s.pins ∧ (s.hear st l t).station = s.station ∧ (s.hear st l t).params = s.params ∧
    (s.hear st l t).halted = s.halted ∧ (s.hear st l t).tb = s.tb ∧ (s.hear st l t).book = s.book ∧ (s.hear st l t).pe = s.pe ∧
    (s.hear st l t).gd = s.gd ∧ (s.hear st l t).am = s.am ∧ (s.hear st l t).ps = s.ps ∧ (s.hear st l t).au = s.au ∧
    (s.hear st l t).rp = s.rp ∧ (s.hear st l t).free = s.free ∧ (s.hear st l t).pending = s.pending := by
  unfold State.hear
  repeat' split
  all_goals simp

/-- `restartCheck` changes nothing but pr, ct, lc. -/
@[simp] theorem State.restartCheck_frame (st : Station) (b : BeaconBody) :
    (s.restartCheck st b).pins = s.pins ∧ (s.restartCheck st b).station = s.station ∧ (s.restartCheck st b).params = s.params ∧
    (s.restartCheck st b).halted = s.halted ∧ (s.restartCheck st b).tb = s.tb ∧ (s.restartCheck st b).book = s.book ∧
    (s.restartCheck st b).pe = s.pe ∧ (s.restartCheck st b).gd = s.gd ∧ (s.restartCheck st b).am = s.am ∧
    (s.restartCheck st b).ps = s.ps ∧ (s.restartCheck st b).au = s.au ∧ (s.restartCheck st b).rp = s.rp ∧
    (s.restartCheck st b).free = s.free ∧ (s.restartCheck st b).pending = s.pending := by
  unfold State.restartCheck
  repeat' split
  all_goals simp

/-- `offsetStep` changes nothing but pr, ct. -/
@[simp] theorem State.offsetStep_frame (st : Station) (b : BeaconBody) (l : Time) :
    (s.offsetStep st b l).pins = s.pins ∧ (s.offsetStep st b l).station = s.station ∧ (s.offsetStep st b l).params = s.params ∧
    (s.offsetStep st b l).halted = s.halted ∧ (s.offsetStep st b l).tb = s.tb ∧ (s.offsetStep st b l).book = s.book ∧
    (s.offsetStep st b l).pe = s.pe ∧ (s.offsetStep st b l).gd = s.gd ∧ (s.offsetStep st b l).am = s.am ∧
    (s.offsetStep st b l).lc = s.lc ∧ (s.offsetStep st b l).ps = s.ps ∧ (s.offsetStep st b l).au = s.au ∧
    (s.offsetStep st b l).rp = s.rp ∧ (s.offsetStep st b l).free = s.free ∧ (s.offsetStep st b l).pending = s.pending := by
  simp only [State.offsetStep]
  repeat' split
  all_goals simp

/-- `viewCheck` changes nothing but pr, au, rp. -/
@[simp] theorem State.viewCheck_frame (st : Station) (b : BeaconBody) :
    (s.viewCheck st b).pins = s.pins ∧ (s.viewCheck st b).station = s.station ∧ (s.viewCheck st b).params = s.params ∧
    (s.viewCheck st b).halted = s.halted ∧ (s.viewCheck st b).tb = s.tb ∧ (s.viewCheck st b).book = s.book ∧
    (s.viewCheck st b).ct = s.ct ∧ (s.viewCheck st b).pe = s.pe ∧ (s.viewCheck st b).gd = s.gd ∧ (s.viewCheck st b).am = s.am ∧
    (s.viewCheck st b).lc = s.lc ∧ (s.viewCheck st b).ps = s.ps ∧ (s.viewCheck st b).free = s.free ∧
    (s.viewCheck st b).pending = s.pending := by
  unfold State.viewCheck
  repeat' split
  all_goals simp

/-- `takeBeacon` changes nothing but pr, ct, lc, au, rp. -/
@[simp] theorem State.takeBeacon_frame (st : Station) (b : BeaconBody) (l : Time) :
    (s.takeBeacon st b l).pins = s.pins ∧ (s.takeBeacon st b l).station = s.station ∧ (s.takeBeacon st b l).params = s.params ∧
    (s.takeBeacon st b l).halted = s.halted ∧ (s.takeBeacon st b l).tb = s.tb ∧ (s.takeBeacon st b l).book = s.book ∧
    (s.takeBeacon st b l).pe = s.pe ∧ (s.takeBeacon st b l).gd = s.gd ∧ (s.takeBeacon st b l).am = s.am ∧
    (s.takeBeacon st b l).ps = s.ps ∧ (s.takeBeacon st b l).free = s.free ∧ (s.takeBeacon st b l).pending = s.pending := by
  simp [State.takeBeacon]

end Sys2Proof.Machine
end

