-- ==== Sys2Proof/Laws/FrameGrant.lean ====
section
/-! SUPPORT. What each shared operation over GNT, the overrun stretch and what follows every event leaves unchanged, block by block. -/

namespace Sys2Proof.Machine

variable (s : State)

/-- `followStretch` changes nothing but am, au, rp. -/
@[simp] theorem State.followStretch_frame :
    (s.followStretch).pins = s.pins ∧ (s.followStretch).station = s.station ∧ (s.followStretch).params = s.params ∧
    (s.followStretch).halted = s.halted ∧ (s.followStretch).tb = s.tb ∧ (s.followStretch).book = s.book ∧
    (s.followStretch).pr = s.pr ∧ (s.followStretch).ct = s.ct ∧ (s.followStretch).pe = s.pe ∧ (s.followStretch).gd = s.gd ∧
    (s.followStretch).lc = s.lc ∧ (s.followStretch).ps = s.ps ∧ (s.followStretch).free = s.free ∧
    (s.followStretch).pending = s.pending := by
  unfold State.followStretch
  repeat' split
  all_goals simp

/-- `driveGntOnce` changes nothing but gd, am, au, rp. -/
@[simp] theorem State.driveGntOnce_frame :
    (s.driveGntOnce).pins = s.pins ∧ (s.driveGntOnce).station = s.station ∧ (s.driveGntOnce).params = s.params ∧
    (s.driveGntOnce).halted = s.halted ∧ (s.driveGntOnce).tb = s.tb ∧ (s.driveGntOnce).book = s.book ∧ (s.driveGntOnce).pr = s.pr ∧
    (s.driveGntOnce).ct = s.ct ∧ (s.driveGntOnce).pe = s.pe ∧ (s.driveGntOnce).lc = s.lc ∧ (s.driveGntOnce).ps = s.ps ∧
    (s.driveGntOnce).free = s.free ∧ (s.driveGntOnce).pending = s.pending := by
  simp [State.driveGntOnce]

/-- `driveGnt` changes nothing but gd, am, au, rp. -/
@[simp] theorem State.driveGnt_frame :
    (s.driveGnt).pins = s.pins ∧ (s.driveGnt).station = s.station ∧ (s.driveGnt).params = s.params ∧
    (s.driveGnt).halted = s.halted ∧ (s.driveGnt).tb = s.tb ∧ (s.driveGnt).book = s.book ∧ (s.driveGnt).pr = s.pr ∧
    (s.driveGnt).ct = s.ct ∧ (s.driveGnt).pe = s.pe ∧ (s.driveGnt).lc = s.lc ∧ (s.driveGnt).ps = s.ps ∧
    (s.driveGnt).free = s.free ∧ (s.driveGnt).pending = s.pending := by
  simp [State.driveGnt]

/-- `settle` changes nothing but gd, am, au, rp, lc. -/
@[simp] theorem State.settle_frame :
    (s.settle).pins = s.pins ∧ (s.settle).station = s.station ∧ (s.settle).params = s.params ∧ (s.settle).halted = s.halted ∧
    (s.settle).tb = s.tb ∧ (s.settle).book = s.book ∧ (s.settle).pr = s.pr ∧ (s.settle).ct = s.ct ∧ (s.settle).pe = s.pe ∧
    (s.settle).ps = s.ps ∧ (s.settle).free = s.free ∧ (s.settle).pending = s.pending := by
  simp [State.settle]

end Sys2Proof.Machine
end

