-- ==== Sys2Proof/Laws/FrameWhole.lean ====
section
/-! SUPPORT. What each shared operation over the epoch boundary, the port, own frames, and the part as a whole leaves unchanged, block by block. -/

namespace Sys2Proof.Machine

variable (s : State)

/-- `repeatClaims` changes nothing but lc. -/
@[simp] theorem State.repeatClaims_frame :
    (s.repeatClaims).pins = s.pins ∧ (s.repeatClaims).station = s.station ∧ (s.repeatClaims).params = s.params ∧
    (s.repeatClaims).halted = s.halted ∧ (s.repeatClaims).tb = s.tb ∧ (s.repeatClaims).book = s.book ∧ (s.repeatClaims).pr = s.pr ∧
    (s.repeatClaims).ct = s.ct ∧ (s.repeatClaims).pe = s.pe ∧ (s.repeatClaims).gd = s.gd ∧ (s.repeatClaims).am = s.am ∧
    (s.repeatClaims).ps = s.ps ∧ (s.repeatClaims).au = s.au ∧ (s.repeatClaims).rp = s.rp ∧ (s.repeatClaims).free = s.free ∧
    (s.repeatClaims).pending = s.pending := by
  simp [State.repeatClaims]

/-- `switchProfile` changes nothing but am, ps, au, rp. -/
@[simp] theorem State.switchProfile_frame :
    (s.switchProfile).pins = s.pins ∧ (s.switchProfile).station = s.station ∧ (s.switchProfile).params = s.params ∧
    (s.switchProfile).halted = s.halted ∧ (s.switchProfile).tb = s.tb ∧ (s.switchProfile).book = s.book ∧
    (s.switchProfile).pr = s.pr ∧ (s.switchProfile).ct = s.ct ∧ (s.switchProfile).pe = s.pe ∧ (s.switchProfile).gd = s.gd ∧
    (s.switchProfile).lc = s.lc ∧ (s.switchProfile).free = s.free ∧ (s.switchProfile).pending = s.pending := by
  unfold State.switchProfile
  repeat' split
  all_goals simp

/-- `takeBoundary` changes nothing but tb, am, lc, ps, au, rp. -/
@[simp] theorem State.takeBoundary_frame :
    (s.takeBoundary).pins = s.pins ∧ (s.takeBoundary).station = s.station ∧ (s.takeBoundary).params = s.params ∧
    (s.takeBoundary).halted = s.halted ∧ (s.takeBoundary).book = s.book ∧ (s.takeBoundary).pr = s.pr ∧ (s.takeBoundary).ct = s.ct ∧
    (s.takeBoundary).pe = s.pe ∧ (s.takeBoundary).gd = s.gd ∧ (s.takeBoundary).free = s.free ∧ (s.takeBoundary).pending = s.pending := by
  simp [State.takeBoundary]

/-- `enterJoining` changes nothing but pe, pr, lc. -/
@[simp] theorem State.enterJoining_frame :
    (s.enterJoining).pins = s.pins ∧ (s.enterJoining).station = s.station ∧ (s.enterJoining).params = s.params ∧
    (s.enterJoining).halted = s.halted ∧ (s.enterJoining).tb = s.tb ∧ (s.enterJoining).book = s.book ∧ (s.enterJoining).ct = s.ct ∧
    (s.enterJoining).gd = s.gd ∧ (s.enterJoining).am = s.am ∧ (s.enterJoining).ps = s.ps ∧ (s.enterJoining).au = s.au ∧
    (s.enterJoining).rp = s.rp ∧ (s.enterJoining).free = s.free ∧ (s.enterJoining).pending = s.pending := by
  simp [State.enterJoining]

/-- `lineClear` changes nothing but book, pr, ct, pe, lc, au, rp. -/
@[simp] theorem State.lineClear_frame :
    (s.lineClear).pins = s.pins ∧ (s.lineClear).station = s.station ∧ (s.lineClear).params = s.params ∧
    (s.lineClear).halted = s.halted ∧ (s.lineClear).tb = s.tb ∧ (s.lineClear).gd = s.gd ∧ (s.lineClear).am = s.am ∧
    (s.lineClear).ps = s.ps ∧ (s.lineClear).free = s.free ∧ (s.lineClear).pending = s.pending := by
  simp only [State.lineClear]
  repeat' split
  all_goals simp

/-- `bookHalted` changes nothing but book, au, rp. -/
@[simp] theorem State.bookHalted_frame :
    (s.bookHalted).pins = s.pins ∧ (s.bookHalted).station = s.station ∧ (s.bookHalted).params = s.params ∧
    (s.bookHalted).halted = s.halted ∧ (s.bookHalted).tb = s.tb ∧ (s.bookHalted).pr = s.pr ∧ (s.bookHalted).ct = s.ct ∧
    (s.bookHalted).pe = s.pe ∧ (s.bookHalted).gd = s.gd ∧ (s.bookHalted).am = s.am ∧ (s.bookHalted).lc = s.lc ∧
    (s.bookHalted).ps = s.ps ∧ (s.bookHalted).free = s.free ∧ (s.bookHalted).pending = s.pending := by
  unfold State.bookHalted
  generalize s.bookOrder.map (fun e => e.reqEnd .halted) = ns
  induction ns generalizing s with
  | nil => simp
  | cons n ns ih => simpa using ih (s.offerNotice n)

/-- `enterHalted` changes nothing but halted, tb, book, gd, am, lc, au, rp. -/
@[simp] theorem State.enterHalted_frame :
    (s.enterHalted).pins = s.pins ∧ (s.enterHalted).station = s.station ∧ (s.enterHalted).params = s.params ∧
    (s.enterHalted).pr = s.pr ∧ (s.enterHalted).ct = s.ct ∧ (s.enterHalted).pe = s.pe ∧ (s.enterHalted).ps = s.ps ∧
    (s.enterHalted).free = s.free ∧ (s.enterHalted).pending = s.pending := by
  simp [State.enterHalted]

/-- `fallCsn` changes nothing but au, rp. -/
@[simp] theorem State.fallCsn_frame :
    (s.fallCsn).pins = s.pins ∧ (s.fallCsn).station = s.station ∧ (s.fallCsn).params = s.params ∧ (s.fallCsn).halted = s.halted ∧
    (s.fallCsn).tb = s.tb ∧ (s.fallCsn).book = s.book ∧ (s.fallCsn).pr = s.pr ∧ (s.fallCsn).ct = s.ct ∧ (s.fallCsn).pe = s.pe ∧
    (s.fallCsn).gd = s.gd ∧ (s.fallCsn).am = s.am ∧ (s.fallCsn).lc = s.lc ∧ (s.fallCsn).ps = s.ps ∧ (s.fallCsn).free = s.free ∧
    (s.fallCsn).pending = s.pending := by
  unfold State.fallCsn
  repeat' split
  all_goals simp

/-- `riseCsn` changes nothing but au, rp. -/
@[simp] theorem State.riseCsn_frame (w : Nat) :
    (s.riseCsn w).pins = s.pins ∧ (s.riseCsn w).station = s.station ∧ (s.riseCsn w).params = s.params ∧
    (s.riseCsn w).halted = s.halted ∧ (s.riseCsn w).tb = s.tb ∧ (s.riseCsn w).book = s.book ∧ (s.riseCsn w).pr = s.pr ∧
    (s.riseCsn w).ct = s.ct ∧ (s.riseCsn w).pe = s.pe ∧ (s.riseCsn w).gd = s.gd ∧ (s.riseCsn w).am = s.am ∧
    (s.riseCsn w).lc = s.lc ∧ (s.riseCsn w).ps = s.ps ∧ (s.riseCsn w).free = s.free ∧ (s.riseCsn w).pending = s.pending := by
  simp only [State.riseCsn]
  repeat' split
  all_goals simp

/-- `reply` changes nothing but rp. -/
@[simp] theorem State.reply_frame (k : Byte) (o : ReplyOutcome) (r : Reason) (t : Tag) (c : List Nat) :
    (s.reply k o r t c).pins = s.pins ∧ (s.reply k o r t c).station = s.station ∧ (s.reply k o r t c).params = s.params ∧
    (s.reply k o r t c).halted = s.halted ∧ (s.reply k o r t c).tb = s.tb ∧ (s.reply k o r t c).book = s.book ∧
    (s.reply k o r t c).pr = s.pr ∧ (s.reply k o r t c).ct = s.ct ∧ (s.reply k o r t c).pe = s.pe ∧ (s.reply k o r t c).gd = s.gd ∧
    (s.reply k o r t c).am = s.am ∧ (s.reply k o r t c).lc = s.lc ∧ (s.reply k o r t c).ps = s.ps ∧ (s.reply k o r t c).au = s.au ∧
    (s.reply k o r t c).free = s.free ∧ (s.reply k o r t c).pending = s.pending := by
  simp [State.reply]

/-- `refuse` changes nothing but rp. -/
@[simp] theorem State.refuse_frame (k : Byte) (r : Reason) (t : Tag) :
    (s.refuse k r t).pins = s.pins ∧ (s.refuse k r t).station = s.station ∧ (s.refuse k r t).params = s.params ∧
    (s.refuse k r t).halted = s.halted ∧ (s.refuse k r t).tb = s.tb ∧ (s.refuse k r t).book = s.book ∧ (s.refuse k r t).pr = s.pr ∧
    (s.refuse k r t).ct = s.ct ∧ (s.refuse k r t).pe = s.pe ∧ (s.refuse k r t).gd = s.gd ∧ (s.refuse k r t).am = s.am ∧
    (s.refuse k r t).lc = s.lc ∧ (s.refuse k r t).ps = s.ps ∧ (s.refuse k r t).au = s.au ∧ (s.refuse k r t).free = s.free ∧
    (s.refuse k r t).pending = s.pending := by
  simp [State.refuse]

/-- `accept` changes nothing but rp. -/
@[simp] theorem State.accept_frame (k : Byte) (c : List Nat) :
    (s.accept k c).pins = s.pins ∧ (s.accept k c).station = s.station ∧ (s.accept k c).params = s.params ∧
    (s.accept k c).halted = s.halted ∧ (s.accept k c).tb = s.tb ∧ (s.accept k c).book = s.book ∧ (s.accept k c).pr = s.pr ∧
    (s.accept k c).ct = s.ct ∧ (s.accept k c).pe = s.pe ∧ (s.accept k c).gd = s.gd ∧ (s.accept k c).am = s.am ∧
    (s.accept k c).lc = s.lc ∧ (s.accept k c).ps = s.ps ∧ (s.accept k c).au = s.au ∧ (s.accept k c).free = s.free ∧
    (s.accept k c).pending = s.pending := by
  unfold State.accept
  repeat' split
  all_goals simp

/-- `endReception` changes nothing but lc. -/
@[simp] theorem State.endReception_frame :
    (s.endReception).pins = s.pins ∧ (s.endReception).station = s.station ∧ (s.endReception).params = s.params ∧
    (s.endReception).halted = s.halted ∧ (s.endReception).tb = s.tb ∧ (s.endReception).book = s.book ∧
    (s.endReception).pr = s.pr ∧ (s.endReception).ct = s.ct ∧ (s.endReception).pe = s.pe ∧ (s.endReception).gd = s.gd ∧
    (s.endReception).am = s.am ∧ (s.endReception).ps = s.ps ∧ (s.endReception).au = s.au ∧ (s.endReception).rp = s.rp ∧
    (s.endReception).free = s.free ∧ (s.endReception).pending = s.pending := by
  simp [State.endReception]

/-- `dropReception` changes nothing but lc. -/
@[simp] theorem State.dropReception_frame :
    (s.dropReception).pins = s.pins ∧ (s.dropReception).station = s.station ∧ (s.dropReception).params = s.params ∧
    (s.dropReception).halted = s.halted ∧ (s.dropReception).tb = s.tb ∧ (s.dropReception).book = s.book ∧
    (s.dropReception).pr = s.pr ∧ (s.dropReception).ct = s.ct ∧ (s.dropReception).pe = s.pe ∧ (s.dropReception).gd = s.gd ∧
    (s.dropReception).am = s.am ∧ (s.dropReception).ps = s.ps ∧ (s.dropReception).au = s.au ∧ (s.dropReception).rp = s.rp ∧
    (s.dropReception).free = s.free ∧ (s.dropReception).pending = s.pending := by
  simp [State.dropReception]

/-- `followLine` changes nothing but lc. -/
@[simp] theorem State.followLine_frame (line : List LineEvent) :
    (s.followLine line).pins = s.pins ∧ (s.followLine line).station = s.station ∧ (s.followLine line).params = s.params ∧
    (s.followLine line).halted = s.halted ∧ (s.followLine line).tb = s.tb ∧ (s.followLine line).book = s.book ∧
    (s.followLine line).pr = s.pr ∧ (s.followLine line).ct = s.ct ∧ (s.followLine line).pe = s.pe ∧ (s.followLine line).gd = s.gd ∧
    (s.followLine line).am = s.am ∧ (s.followLine line).ps = s.ps ∧ (s.followLine line).au = s.au ∧ (s.followLine line).rp = s.rp ∧
    (s.followLine line).free = s.free ∧ (s.followLine line).pending = s.pending := by
  simp [State.followLine]

/-- `countGood` changes nothing but lc, au. -/
@[simp] theorem State.countGood_frame :
    (s.countGood).pins = s.pins ∧ (s.countGood).station = s.station ∧ (s.countGood).params = s.params ∧
    (s.countGood).halted = s.halted ∧ (s.countGood).tb = s.tb ∧ (s.countGood).book = s.book ∧ (s.countGood).pr = s.pr ∧
    (s.countGood).ct = s.ct ∧ (s.countGood).pe = s.pe ∧ (s.countGood).gd = s.gd ∧ (s.countGood).am = s.am ∧
    (s.countGood).ps = s.ps ∧ (s.countGood).rp = s.rp ∧ (s.countGood).free = s.free ∧ (s.countGood).pending = s.pending := by
  unfold State.countGood
  repeat' split
  all_goals simp

/-- `countBad` changes nothing but lc, au, rp. -/
@[simp] theorem State.countBad_frame :
    (s.countBad).pins = s.pins ∧ (s.countBad).station = s.station ∧ (s.countBad).params = s.params ∧
    (s.countBad).halted = s.halted ∧ (s.countBad).tb = s.tb ∧ (s.countBad).book = s.book ∧ (s.countBad).pr = s.pr ∧
    (s.countBad).ct = s.ct ∧ (s.countBad).pe = s.pe ∧ (s.countBad).gd = s.gd ∧ (s.countBad).am = s.am ∧ (s.countBad).ps = s.ps ∧
    (s.countBad).free = s.free ∧ (s.countBad).pending = s.pending := by
  simp only [State.countBad]
  repeat' split
  all_goals simp

/-- `contend` changes nothing but lc. -/
@[simp] theorem State.contend_frame :
    (s.contend).pins = s.pins ∧ (s.contend).station = s.station ∧ (s.contend).params = s.params ∧ (s.contend).halted = s.halted ∧
    (s.contend).tb = s.tb ∧ (s.contend).book = s.book ∧ (s.contend).pr = s.pr ∧ (s.contend).ct = s.ct ∧ (s.contend).pe = s.pe ∧
    (s.contend).gd = s.gd ∧ (s.contend).am = s.am ∧ (s.contend).ps = s.ps ∧ (s.contend).au = s.au ∧ (s.contend).rp = s.rp ∧
    (s.contend).free = s.free ∧ (s.contend).pending = s.pending := by
  unfold State.contend
  repeat' split
  all_goals simp

/-- `takeStartMark` changes nothing but lc. -/
@[simp] theorem State.takeStartMark_frame :
    (s.takeStartMark).pins = s.pins ∧ (s.takeStartMark).station = s.station ∧ (s.takeStartMark).params = s.params ∧
    (s.takeStartMark).halted = s.halted ∧ (s.takeStartMark).tb = s.tb ∧ (s.takeStartMark).book = s.book ∧
    (s.takeStartMark).pr = s.pr ∧ (s.takeStartMark).ct = s.ct ∧ (s.takeStartMark).pe = s.pe ∧ (s.takeStartMark).gd = s.gd ∧
    (s.takeStartMark).am = s.am ∧ (s.takeStartMark).ps = s.ps ∧ (s.takeStartMark).au = s.au ∧ (s.takeStartMark).rp = s.rp ∧
    (s.takeStartMark).free = s.free ∧ (s.takeStartMark).pending = s.pending := by
  unfold State.takeStartMark
  split
  all_goals simp

/-- `reachIdle` changes nothing but lc. -/
@[simp] theorem State.reachIdle_frame :
    (s.reachIdle).pins = s.pins ∧ (s.reachIdle).station = s.station ∧ (s.reachIdle).params = s.params ∧
    (s.reachIdle).halted = s.halted ∧ (s.reachIdle).tb = s.tb ∧ (s.reachIdle).book = s.book ∧ (s.reachIdle).pr = s.pr ∧
    (s.reachIdle).ct = s.ct ∧ (s.reachIdle).pe = s.pe ∧ (s.reachIdle).gd = s.gd ∧ (s.reachIdle).am = s.am ∧
    (s.reachIdle).ps = s.ps ∧ (s.reachIdle).au = s.au ∧ (s.reachIdle).rp = s.rp ∧ (s.reachIdle).free = s.free ∧
    (s.reachIdle).pending = s.pending := by
  unfold State.reachIdle
  split
  all_goals simp

/-- `reportBeacon` changes nothing but book, pr, pe, lc. -/
@[simp] theorem State.reportBeacon_frame (l : Time) (f : Bool) :
    (s.reportBeacon l f).pins = s.pins ∧ (s.reportBeacon l f).station = s.station ∧ (s.reportBeacon l f).params = s.params ∧
    (s.reportBeacon l f).halted = s.halted ∧ (s.reportBeacon l f).tb = s.tb ∧ (s.reportBeacon l f).ct = s.ct ∧
    (s.reportBeacon l f).gd = s.gd ∧ (s.reportBeacon l f).am = s.am ∧ (s.reportBeacon l f).ps = s.ps ∧
    (s.reportBeacon l f).au = s.au ∧ (s.reportBeacon l f).rp = s.rp ∧ (s.reportBeacon l f).free = s.free ∧
    (s.reportBeacon l f).pending = s.pending := by
  unfold State.reportBeacon
  repeat' split
  all_goals simp

/-- `endRetirement` changes nothing but book. -/
@[simp] theorem State.endRetirement_frame (t : Tag) :
    (s.endRetirement t).pins = s.pins ∧ (s.endRetirement t).station = s.station ∧ (s.endRetirement t).params = s.params ∧
    (s.endRetirement t).halted = s.halted ∧ (s.endRetirement t).tb = s.tb ∧ (s.endRetirement t).pr = s.pr ∧
    (s.endRetirement t).ct = s.ct ∧ (s.endRetirement t).pe = s.pe ∧ (s.endRetirement t).gd = s.gd ∧ (s.endRetirement t).am = s.am ∧
    (s.endRetirement t).lc = s.lc ∧ (s.endRetirement t).ps = s.ps ∧ (s.endRetirement t).au = s.au ∧ (s.endRetirement t).rp = s.rp ∧
    (s.endRetirement t).free = s.free ∧ (s.endRetirement t).pending = s.pending := by
  unfold State.endRetirement
  repeat' split
  all_goals simp

/-- `handReport` changes nothing but book, pr, pe, lc. -/
@[simp] theorem State.handReport_frame (l : Time) (b : FrameBody) :
    (s.handReport l b).pins = s.pins ∧ (s.handReport l b).station = s.station ∧ (s.handReport l b).params = s.params ∧
    (s.handReport l b).halted = s.halted ∧ (s.handReport l b).tb = s.tb ∧ (s.handReport l b).ct = s.ct ∧
    (s.handReport l b).gd = s.gd ∧ (s.handReport l b).am = s.am ∧ (s.handReport l b).ps = s.ps ∧ (s.handReport l b).au = s.au ∧
    (s.handReport l b).rp = s.rp ∧ (s.handReport l b).free = s.free ∧ (s.handReport l b).pending = s.pending := by
  cases b <;> simp [State.handReport]

/-- `reportStartMark` changes nothing but book, pr, pe, lc. -/
@[simp] theorem State.reportStartMark_frame :
    (s.reportStartMark).pins = s.pins ∧ (s.reportStartMark).station = s.station ∧ (s.reportStartMark).params = s.params ∧
    (s.reportStartMark).halted = s.halted ∧ (s.reportStartMark).tb = s.tb ∧ (s.reportStartMark).ct = s.ct ∧
    (s.reportStartMark).gd = s.gd ∧ (s.reportStartMark).am = s.am ∧ (s.reportStartMark).ps = s.ps ∧ (s.reportStartMark).au = s.au ∧
    (s.reportStartMark).rp = s.rp ∧ (s.reportStartMark).free = s.free ∧ (s.reportStartMark).pending = s.pending := by
  unfold State.reportStartMark
  repeat' split
  all_goals simp

/-- `abandonFrame` changes nothing but lc. -/
@[simp] theorem State.abandonFrame_frame :
    (s.abandonFrame).pins = s.pins ∧ (s.abandonFrame).station = s.station ∧ (s.abandonFrame).params = s.params ∧
    (s.abandonFrame).halted = s.halted ∧ (s.abandonFrame).tb = s.tb ∧ (s.abandonFrame).book = s.book ∧ (s.abandonFrame).pr = s.pr ∧
    (s.abandonFrame).ct = s.ct ∧ (s.abandonFrame).pe = s.pe ∧ (s.abandonFrame).gd = s.gd ∧ (s.abandonFrame).am = s.am ∧
    (s.abandonFrame).ps = s.ps ∧ (s.abandonFrame).au = s.au ∧ (s.abandonFrame).rp = s.rp ∧ (s.abandonFrame).free = s.free ∧
    (s.abandonFrame).pending = s.pending := by
  unfold State.abandonFrame
  repeat' split
  all_goals simp

/-- `enterBook` changes nothing but book, au, rp, lc. -/
@[simp] theorem State.enterBook_frame (q : Request) (c : List Nat) :
    (s.enterBook q c).pins = s.pins ∧ (s.enterBook q c).station = s.station ∧ (s.enterBook q c).params = s.params ∧
    (s.enterBook q c).halted = s.halted ∧ (s.enterBook q c).tb = s.tb ∧ (s.enterBook q c).pr = s.pr ∧ (s.enterBook q c).ct = s.ct ∧
    (s.enterBook q c).pe = s.pe ∧ (s.enterBook q c).gd = s.gd ∧ (s.enterBook q c).am = s.am ∧ (s.enterBook q c).ps = s.ps ∧
    (s.enterBook q c).free = s.free ∧ (s.enterBook q c).pending = s.pending := by
  simp [State.enterBook]

/-- `cancelEntry` changes nothing but book, au, rp, lc. -/
@[simp] theorem State.cancelEntry_frame (e : Entry) :
    (s.cancelEntry e).pins = s.pins ∧ (s.cancelEntry e).station = s.station ∧ (s.cancelEntry e).params = s.params ∧
    (s.cancelEntry e).halted = s.halted ∧ (s.cancelEntry e).tb = s.tb ∧ (s.cancelEntry e).pr = s.pr ∧ (s.cancelEntry e).ct = s.ct ∧
    (s.cancelEntry e).pe = s.pe ∧ (s.cancelEntry e).gd = s.gd ∧ (s.cancelEntry e).am = s.am ∧ (s.cancelEntry e).ps = s.ps ∧
    (s.cancelEntry e).free = s.free ∧ (s.cancelEntry e).pending = s.pending := by
  unfold State.cancelEntry
  repeat' split
  all_goals simp

end Sys2Proof.Machine
end

