-- ==== Sys2Proof/Laws/Settle.lean ====
section
/-! SUPPORT. What follows every event: GNT, the overrun stretch and the contending frame. `settle_follows` says once everything that
`settle` can do. -/

namespace Sys2Proof.Machine

variable (s : State)

/-- The level of GNT reads the part state, the hold flag, the open windows and the fast grant alone (R117). -/
theorem gntLevel_congr {s t : State} (hh : t.halted = s.halted) (hp : t.pe = s.pe) (hb : t.book = s.book)
    (ha : t.au.hold = s.au.hold) (hf : t.gd.fast = s.gd.fast) (hl : t.gd.fallback = s.gd.fallback) : t.gntLevel = s.gntLevel := by
  simp [State.gntLevel, State.joined, State.part, State.openCount, hh, hp, hb, ha, hf, hl]

/-- A stretch counted by `followStretch`: it ends now, grace + 1 µs after its start (R141, R142). -/
def State.countsNow (s : State) : Prop :=
  s.am.overrun = .timing ∧ s.stretchNow = false ∧ s.am.stretchStart = some (s.now - BitVec.ofNat 32 (s.params.grace + 1))

/-- A stretch that is counted leaves AU and RP as the count leaves them. -/
theorem followStretch_counted (h : s.countsNow) :
    s.followStretch.au = s.countOverrun.au ∧ s.followStretch.rp = s.countOverrun.rp := by
  obtain ⟨h1, h2, h3⟩ := h
  have hc := countOverrun_congr (s := s)
    (t := s.onAm fun m => { m with overrun := .clear, stretchStart := none, countDeadline := none }) rfl rfl
  simp [State.followStretch, h1, h2, h3, hc]

/-- Without a count, AU and RP stand. -/
theorem followStretch_uncounted (h : ¬ s.countsNow) : s.followStretch.au = s.au ∧ s.followStretch.rp = s.rp := by
  unfold State.followStretch
  split
  · simp
  · next h1 h2 =>
    have : s.am.stretchStart ≠ some (s.now - BitVec.ofNat 32 (s.params.grace + 1)) := fun h3 => h ⟨h1, h2, h3⟩
    simp [this]
  all_goals simp

/-- AM after `followStretch`, by the overrun state and the stretch (R141): a stretch begins, goes on, ends, or there is none. -/
theorem followStretch_am : s.followStretch.am =
    if s.am.overrun = .clear then
      if s.stretchNow then
        { s.am with overrun := .timing, stretchStart := some s.now, countDeadline := some (later s.now (s.params.grace + 1)) }
      else s.am
    else if s.stretchNow then s.am else { s.am with overrun := .clear, stretchStart := none, countDeadline := none } := by
  unfold State.followStretch
  split
  all_goals (try split)
  all_goals simp_all

/-- The filter and the level of GNT, on which a stretch rests, after `followStretch`. -/
theorem followStretch_act : s.followStretch.am.act = s.am.act := by
  rw [followStretch_am]
  repeat' split
  all_goals rfl

/-- GNT at the level of its law. -/
def State.atLevel (s : State) : State := s.onGd fun g => { g with gnt := s.gntLevel }

/-- With GNT at its level, a stretch is in progress exactly when the level says so. -/
theorem atLevel_stretchNow : s.atLevel.stretchNow = s.inStretch := rfl

/-- A stretch that does not end counted leaves the level of GNT, and with it the stretch, as they were. -/
theorem driveGntOnce_inStretch (h : ¬ s.endsCounted) : s.driveGntOnce.gntLevel = s.gntLevel ∧ s.driveGntOnce.inStretch = s.inStretch := by
  have hd : s.driveGntOnce = s.atLevel.followStretch := rfl
  have hl : s.driveGntOnce.gntLevel = s.gntLevel := by
    refine gntLevel_congr (by simp) (by simp) (by simp) ?_ (by simp [State.driveGntOnce]) (by simp [State.driveGntOnce])
    rw [hd, (followStretch_uncounted s.atLevel h).1]; rfl
  refine ⟨hl, ?_⟩
  rw [State.inStretch, State.inStretch, hl, hd, followStretch_act]
  rfl

/-- The first working-out of GNT may count a stretch; the second counts none. -/
theorem driveGnt_second_uncounted : ¬ s.driveGntOnce.endsCounted := by
  rintro ⟨h1, h2, -⟩
  rw [show s.driveGntOnce = s.atLevel.followStretch from rfl, followStretch_am] at h1
  by_cases hc : s.endsCounted
  · have h3 : s.atLevel.am.overrun = .timing := hc.1
    have h4 : s.atLevel.stretchNow = false := hc.2.1
    simp [h3, h4] at h1
  · rw [(driveGntOnce_inStretch s hc).2, ← atLevel_stretchNow] at h2
    simp only [h2, Bool.false_eq_true, if_false] at h1
    split at h1
    · next h3 => rw [h3] at h1; cases h1
    · cases h1

/-- Everything `driveGnt` can do. -/
theorem driveGnt_spec :
    s.driveGnt.gd = { s.gd with gnt := s.driveGnt.gntLevel } ∧
    (s.am.overrun = .clear → s.driveGnt.inStretch = false → s.driveGnt.am = s.am) ∧
    (s.am.overrun = .clear ∨ s.inStretch = false → s.driveGnt.inStretch = true → s.driveGnt.am =
      { s.am with overrun := .timing, stretchStart := some s.now, countDeadline := some (later s.now (s.params.grace + 1)) }) ∧
    (s.am.overrun ≠ .clear → s.inStretch = true → s.driveGnt.am = s.am) ∧
    (s.am.overrun ≠ .clear → s.inStretch = false → s.driveGnt.inStretch = false → s.driveGnt.am =
      { s.am with overrun := .clear, stretchStart := none, countDeadline := none }) ∧
    (s.endsCounted → s.driveGnt.au = s.countOverrun.au ∧ s.driveGnt.rp = s.countOverrun.rp) ∧
    (¬ s.endsCounted → s.driveGnt.au = s.au ∧ s.driveGnt.rp = s.rp) := by
  let v := s.driveGntOnce
  have hv : v = s.atLevel.followStretch := rfl
  have hd : s.driveGnt = v.atLevel.followStretch := rfl
  have hw := followStretch_uncounted v.atLevel (driveGnt_second_uncounted s)
  have hin : s.driveGnt.inStretch = v.inStretch := (driveGntOnce_inStretch v (driveGnt_second_uncounted s)).2
  have hlev : s.driveGnt.gntLevel = v.gntLevel := (driveGntOnce_inStretch v (driveGnt_second_uncounted s)).1
  have hnow : v.now = s.now := by simp [State.now, v]
  have hpar : v.params = s.params := by simp [v]
  have ham2 := followStretch_am v.atLevel
  have ham1 := followStretch_am s.atLevel
  rw [atLevel_stretchNow] at ham1 ham2
  rw [← hd] at ham2
  rw [← hv] at ham1
  change s.driveGnt.am = (if v.am.overrun = .clear then
      if v.inStretch then
        { v.am with overrun := .timing, stretchStart := some v.now, countDeadline := some (later v.now (v.params.grace + 1)) }
      else v.am
    else if v.inStretch then v.am else { v.am with overrun := .clear, stretchStart := none, countDeadline := none }) at ham2
  change v.am = (if s.am.overrun = .clear then
      if s.inStretch then
        { s.am with overrun := .timing, stretchStart := some s.now, countDeadline := some (later s.now (s.params.grace + 1)) }
      else s.am
    else if s.inStretch then s.am else { s.am with overrun := .clear, stretchStart := none, countDeadline := none }) at ham1
  have hsame : s.am.overrun = .clear ∨ s.inStretch = true → v.inStretch = s.inStretch := by
    intro h
    refine (driveGntOnce_inStretch s fun hc => ?_).2
    rcases h with h | h
    · rw [hc.1] at h; cases h
    · rw [hc.2.1] at h; cases h
  refine ⟨?_, ?_, ?_, ?_, ?_, ?_, ?_⟩
  · rw [hlev, hd]
    simp [State.atLevel, hv]
  · intro h1 h2
    rw [hin, hsame (.inl h1)] at h2
    rw [if_pos h1, h2] at ham1
    simp only [Bool.false_eq_true, if_false] at ham1
    rw [ham2, ham1, if_pos h1, hsame (.inl h1), h2]
    rfl
  · intro h1 h2
    rw [hin] at h2
    rw [h2] at ham2
    by_cases hc : s.am.overrun = .clear
    · rw [if_pos hc, ← hsame (.inl hc), h2] at ham1
      simp only [if_true] at ham1
      rw [ham2, ham1]
      rfl
    · rw [if_neg hc, h1.resolve_left hc] at ham1
      simp only [Bool.false_eq_true, if_false] at ham1
      rw [ham2, ham1, hnow, hpar]
      rfl
  · intro h1 h2
    rw [if_neg h1, h2] at ham1
    simp only [if_true] at ham1
    rw [ham2, ham1, if_neg h1, hsame (.inr h2), h2]
    rfl
  · intro h1 h2 h3
    rw [hin] at h3
    rw [if_neg h1, h2] at ham1
    simp only [Bool.false_eq_true, if_false] at ham1
    rw [ham2, ham1, h3]
    rfl
  · intro hc
    rw [hd, hw.1, hw.2]
    change v.au = _ ∧ v.rp = _
    have hcong := countOverrun_congr (s := s) (t := s.atLevel) rfl rfl
    obtain ⟨h2, h3⟩ := followStretch_counted s.atLevel hc
    exact ⟨h2.trans hcong.1, h3.trans hcong.2⟩
  · intro hc
    rw [hd, hw.1, hw.2]
    exact followStretch_uncounted s.atLevel hc

/-- Everything `checkContender` can do (R153). -/
theorem checkContender_spec : (s.contenderStands ∧ s.checkContender = s) ∨
    (¬ s.contenderStands ∧ s.checkContender = s.stopContending) := by
  unfold State.checkContender State.contenderStands
  split
  · next h => exact .inl ⟨fun c hc => by simp [h] at hc, rfl⟩
  · next c h =>
    split
    · next hb =>
      refine .inl ⟨fun c' hc' => ?_, rfl⟩
      rw [h] at hc'
      cases hc'
      simpa using hb
    · next hb =>
      refine .inr ⟨fun hall => hb ?_, rfl⟩
      simpa using hall c h

/-- What the contending frame rests on: the queue, the book and the present instant. -/
theorem contenderStands_congr {s t : State} (hl : t.lc = s.lc) (hb : t.book = s.book) (ht : t.tb = s.tb) :
    t.contenderStands ↔ s.contenderStands := by
  have hk : ∀ r, t.keyKind r = s.keyKind r := by
    intro r
    have hf : t.findEntry = s.findEntry := by funext tag; rw [State.findEntry, State.findEntry, hb]
    have hd : t.distance = s.distance := by funext p; rw [State.distance, State.distance, State.now, State.now, ht]
    rw [State.keyKind.eq_def, State.keyKind.eq_def, hf, hd]
  simp [State.contenderStands, State.queueHolds, hl, hk]

/-- Everything that follows an event at its instant. -/
theorem settle_follows : s.Follows s.settle := by
  obtain ⟨h1, h2, h3, h4, h5, h6, h7⟩ := driveGnt_spec s
  have hset : s.settle = s.driveGnt.checkContender := rfl
  have hstand := contenderStands_congr (s := s) (t := s.driveGnt) (by simp) (by simp) (by simp)
  have hg : s.settle.gntLevel = s.driveGnt.gntLevel := gntLevel_congr (by simp) (by simp) (by simp) (by simp [hset])
    (by simp [hset]) (by simp [hset])
  have ham : s.settle.am = s.driveGnt.am := by simp [hset]
  have hn : s.settle.inStretch = s.driveGnt.inStretch := by rw [State.inStretch, State.inStretch, hg, ham]
  constructor
  case gd => rw [hg, hset]; simpa using h1
  case noStretch => rw [hn, ham]; exact h2
  case stretchBegins => rw [hn, ham]; exact h3
  case stretchStands => rw [ham]; exact h4
  case stretchEnds => rw [hn, ham]; exact h5
  case counted => rw [hset]; simpa using h6
  case uncounted => rw [hset]; simpa using h7
  case lc =>
    rw [hset]
    rcases checkContender_spec s.driveGnt with ⟨hs, he⟩ | ⟨hs, he⟩
    · exact .inl ⟨hstand.1 hs, by rw [he]; simp⟩
    · exact .inr ⟨fun h => hs (hstand.2 h), by rw [he]; simp [State.stopContending]⟩
  all_goals simp

end Sys2Proof.Machine
end

