-- ==== Sys2Proof/Laws/Commands.lean ====
section
/-! SUPPORT. What a command answers: an event that comes about has its effect, and a CSn rise hands its record to the state after the removal
step. -/

namespace Sys2Proof.Machine

/-- A command whose event comes about answers its effect. -/
theorem occurs_of_enabled {enabled : Bool} (h : enabled = true) (effect : State → State) (s : State) :
    occurs enabled effect s = .next (effect s) := by simp [occurs, h]

/-- A command whose event does not come about leaves the state. -/
theorem occurs_of_disabled {enabled : Bool} (h : enabled = false) (effect : State → State) (s : State) :
    occurs enabled effect s = .next s := by simp [occurs, h]

/-- A command answers a next state that is its effect followed by what follows every event. -/
theorem occurs_settles {enabled : Bool} (h : enabled = true) (effect : State → State) (s : State) :
    ∃ t, occurs enabled (fun s => (effect s).settle) s = .next t ∧ (effect s).Follows t :=
  ⟨_, occurs_of_enabled h _ s, settle_follows _⟩

/-- What the removal step of a CSn rise leaves: all but RP, and of AU all but the ALERT state and the new-raise mark. -/
theorem riseCsn_au (whole : Nat) (s : State) :
    (s.riseCsn whole).au = { s.au with alert := (s.riseCsn whole).au.alert, newRaise := (s.riseCsn whole).au.newRaise } := by
  have fall : ∀ u : State, u.fallCsn.au = { u.au with alert := u.fallCsn.au.alert, newRaise := u.fallCsn.au.newRaise } := by
    intro u
    unfold State.fallCsn
    split
    · rfl
    · split <;> rfl
  have remove : ∀ u : State, u.removeHead.au = { u.au with alert := u.removeHead.au.alert, newRaise := u.removeHead.au.newRaise } := by
    intro u
    unfold State.removeHead
    split
    · rfl
    · unfold State.alertAfterRemoval
      split
      · split <;> rfl
      · split <;> rfl
  unfold State.riseCsn
  dsimp only [State.onRp_au]
  split
  · split
    · exact remove s
    · rfl
  · split
    · rw [remove, fall]
    · exact fall s

/-- A record that finds a free entry is handled on the state after the removal step (R193). -/
theorem takeRecord_taken {whole : Nat} {s b u : State} {handle : State → State} (hb : s.riseCsn whole = b) (hf : 1 ≤ b.freeNotices)
    (hu : handle b = u) : u.Follows (s.takeRecord whole handle) := by
  subst hu
  simp only [State.takeRecord, hb, hf, if_true]
  exact settle_follows _

/-- A record that finds no free entry is passed over (R193). -/
theorem takeRecord_passed {whole : Nat} {s b : State} {handle : State → State} (hb : s.riseCsn whole = b) (hf : b.freeNotices = 0) :
    b.Follows (s.takeRecord whole handle) := by
  simp only [State.takeRecord, hb, hf]
  exact settle_follows _

end Sys2Proof.Machine
end

