-- ==== Sys2Proof/Laws/Conflict.lean ====
section
/-! SUPPORT. The occurrences a conflict test examines (R73, R82) and the blocking intervals it finds (R87, R99); expiry
points computed afresh (R71). -/

namespace Sys2Proof.Machine

open Sys2Proof

variable {s : State}

/-- Rounding to the nearest 16,000,000th. -/
theorem roundDiv_bounds (x : Int) :
    32000000 * roundDiv x 16000000 ≤ 2 * x + 16000000 ∧ 2 * x - 16000000 ≤ 32000000 * roundDiv x 16000000 := by
  unfold roundDiv
  have : ((16000000 : Nat) : Int) = 16000000 := rfl
  rw [this]
  split <;> omega

theorem drift_mul_bounds {drift : Int} (h : -3200 ≤ drift ∧ drift ≤ 3200) (p : Nat) :
    -(3200 * (p : Int)) ≤ p * drift ∧ p * drift ≤ 3200 * (p : Int) := by
  have hp : (0 : Int) ≤ p := Int.natCast_nonneg p
  constructor <;> nlinarith [h.1, h.2]

theorem abs_mul_bounds {drift : Int} (h : -3200 ≤ drift ∧ drift ≤ 3200) (e : Int) :
    -(3200 * |e|) ≤ e * drift ∧ e * drift ≤ 3200 * |e| := by
  rcases abs_cases e with ⟨h1, h2⟩ | ⟨h1, h2⟩ <;> rw [h1] <;> constructor <;> nlinarith [h.1, h.2]

/-- The start of an occupied interval does not go back over a step of 100 µs or more, or none (R73, R82). -/
theorem start_mono {drift : Int} (h : -3200 ≤ drift ∧ drift ≤ 3200) {rate : Nat} (hr : rate = 10 ∨ rate = 50 ∨ rate = 200) (e : Int)
    {p : Nat} (hp : p = 0 ∨ 100 ≤ p) : projected drift e - margin rate e ≤ projected drift (e + p) - margin rate (e + p) := by
  rcases hp with rfl | hp
  · simp
  · have hb := drift_mul_bounds h p
    have h1 := roundDiv_bounds (e * drift)
    have h2 := roundDiv_bounds (e * drift + p * drift)
    have hd : (e + p) * drift = e * drift + p * drift := by ring
    unfold projected margin ceilDiv
    rw [hd]
    generalize e * drift = x at *
    generalize (p : Int) * drift = y at *
    rcases hr with rfl | rfl | rfl <;> omega

/-- The start of an occupied interval lies at least half of its peer time after the anchor, less 6 µs. -/
theorem start_bound {drift : Int} (h : -3200 ≤ drift ∧ drift ≤ 3200) {rate : Nat} (hr : rate = 10 ∨ rate = 50 ∨ rate = 200) (e : Int)
    (he : 0 ≤ e) : e ≤ 2 * (projected drift e - margin rate e + 6) := by
  have hb := abs_mul_bounds h e
  rw [abs_of_nonneg he] at hb
  have h1 := roundDiv_bounds (e * drift)
  unfold projected margin ceilDiv
  generalize e * drift = x at *
  rcases hr with rfl | rfl | rfl <;> omega

/-- A run gives the guarded intervals of all its occurrences that are not past and begin before the own end, when no occurrence begins before
an earlier one and its bound is not reached (R82). -/
theorem mem_guardedRun (occ : Nat → Interval) (g ownEnd : Int) (remaining : Option Nat)
    (h1 : ∀ j, (occ j).1 ≤ (occ (j + 1)).1) (x : Interval) (fuel j : Nat) :
    x ∈ guardedRun occ g ownEnd remaining fuel j ↔ ∃ i, j ≤ i ∧ i < j + fuel ∧ pastLast remaining i = false ∧ 0 < (occ i).2 ∧
      (occ i).1 - g < ownEnd ∧ x = ((occ i).1 - g, (occ i).2 + g) := by
  have m1 : ∀ {a b}, a ≤ b → (occ a).1 ≤ (occ b).1 := fun {a b} hab => monotone_nat_of_le_succ (f := fun j => (occ j).1) h1 hab
  have pm : ∀ {a b}, a ≤ b → pastLast remaining a = true → pastLast remaining b = true := by
    intro a b hab ha
    unfold pastLast at *
    split <;> simp_all
    omega
  induction fuel generalizing j with
  | zero =>
    simp only [guardedRun, List.not_mem_nil, false_iff]
    rintro ⟨i, hi, hj, -⟩
    omega
  | succ n ih =>
    have split_first : (∃ i, j ≤ i ∧ i < j + (n + 1) ∧ pastLast remaining i = false ∧ 0 < (occ i).2 ∧
        (occ i).1 - g < ownEnd ∧ x = ((occ i).1 - g, (occ i).2 + g)) ↔
        (pastLast remaining j = false ∧ 0 < (occ j).2 ∧ (occ j).1 - g < ownEnd ∧ x = ((occ j).1 - g, (occ j).2 + g)) ∨
        ∃ i, j + 1 ≤ i ∧ i < j + 1 + n ∧ pastLast remaining i = false ∧ 0 < (occ i).2 ∧
        (occ i).1 - g < ownEnd ∧ x = ((occ i).1 - g, (occ i).2 + g) := by
      constructor
      · rintro ⟨i, hi, hj, h⟩
        rcases Nat.eq_or_lt_of_le hi with rfl | hi'
        · exact .inl h
        · exact .inr ⟨i, hi', by omega, h⟩
      · rintro (h | ⟨i, hi, hj, h⟩)
        · exact ⟨j, le_refl j, by omega, h⟩
        · exact ⟨i, by omega, by omega, h⟩
    have ih' := ih (j + 1)
    rw [split_first]
    unfold guardedRun
    split_ifs with a b c
    · simp only [List.not_mem_nil, false_iff]
      rintro (h | ⟨i, hi, -, h, -⟩)
      · simp [a] at h
      · simp [pm (by omega : j ≤ i) a] at h
    · refine ih'.trans ?_
      constructor
      · exact .inr
      · rintro (h | h)
        · omega
        · exact h
    · simp only [List.not_mem_nil, false_iff]
      rintro (h | ⟨i, hi, -, -, -, h, -⟩)
      · omega
      · have := m1 (by omega : j ≤ i)
        omega
    · rw [List.mem_cons]
      refine (or_congr_right ih').trans ?_
      constructor
      · rintro (h | h)
        · exact .inl ⟨by simpa using a, by omega, by omega, h⟩
        · exact .inr h
      · rintro (h | h)
        · exact .inl h.2.2.2
        · exact .inr h

theorem marginRate_cases (s : State) (r : PeerRecord) : s.marginRate r = 10 ∨ s.marginRate r = 50 ∨ s.marginRate r = 200 := by
  unfold State.marginRate
  split_ifs <;> simp

/-- The blocking intervals of one CT entry are those of R99: the bound of the run ends none early (notes/assumptions/19). -/
theorem mem_blockingOf (x : Activity) (own : Interval) (c : ClaimEntry) (r : PeerRecord) (hr : s.findPeer c.station = some r)
    (d1 : -3200 ≤ r.drift) (d2 : r.drift ≤ 3200) (hp : ∀ p, c.period = some p → 100 ≤ p) (hs : c.period = none → c.remaining = some 1)
    (g : Interval) : g ∈ s.blockingOf x own c ↔
        spectralConflict s.profile x c = true ∧
        Rank.stronger ⟨c.cls, r.credit, c.station⟩ ⟨x.cls, s.pe.rankingCredit, s.station⟩ = true ∧
        ∃ j : Nat, (∀ n, c.remaining = some n → j < n) ∧
          let occupied := c.occupied r.drift (s.marginRate r) j
          let anchor := s.distance c.anchorLocal
          0 < anchor + occupied.2 ∧
            g = (anchor + occupied.1 - (s.profile.guardTime : Int), anchor + occupied.2 + (s.profile.guardTime : Int)) ∧
            own.1 < own.2 ∧ own.1 < g.2 ∧ g.1 < own.2 := by
  have hd := And.intro d1 d2
  have hm := marginRate_cases s r
  have hper : c.period.getD 0 = 0 ∨ 100 ≤ c.period.getD 0 := by
    cases h : c.period with
    | none => exact .inl rfl
    | some p => exact .inr (hp p h)
  have next : ∀ j : Nat, c.startOf (j + 1) = c.startOf j + (c.period.getD 0 : Nat) := by
    intro j
    unfold ClaimEntry.startOf
    push_cast
    ring
  have h1 : ∀ j, (s.occupiedFromNow r c j).1 ≤ (s.occupiedFromNow r c (j + 1)).1 := by
    intro j
    have := start_mono hd hm (c.startOf j) hper
    simp only [State.occupiedFromNow, ClaimEntry.occupied, next j]
    omega
  have past : ∀ j, pastLast c.remaining j = false ↔ ∀ n, c.remaining = some n → j < n := by
    intro j
    unfold pastLast
    split <;> simp_all
  have bound : ∀ j, (∀ n, c.remaining = some n → j < n) → (s.occupiedFromNow r c j).1 - s.profile.guardTime < own.2 →
      j < 0 + s.runBound c s.profile.guardTime own.2 := by
    intro j hj hlt
    unfold State.runBound
    cases h : c.period with
    | none =>
      have := hj 1 (hs h)
      simp only [Option.getD_none, Nat.div_one]
      omega
    | some p =>
      have hp' := hp p h
      have hst : c.startOf j = c.anchorOffset + (j * p : Nat) := by simp [ClaimEntry.startOf, h]
      have key : j * p ≤ 2 * (own.2 - s.distance c.anchorLocal + s.profile.guardTime + 6).toNat + (-c.anchorOffset).toNat := by
        by_cases he : 0 ≤ c.startOf j
        · have := start_bound hd hm _ he
          simp only [State.occupiedFromNow, ClaimEntry.occupied] at hlt
          omega
        · omega
      have : j ≤ (2 * (own.2 - s.distance c.anchorLocal + s.profile.guardTime + 6).toNat + (-c.anchorOffset).toNat) / p :=
        (Nat.le_div_iff_mul_le (by omega)).2 key
      simp only [Option.getD_some]
      omega
  unfold State.blockingOf
  simp only [hr]
  by_cases hc : spectralConflict s.profile x c && (peerRank r c).stronger (s.ownRank x)
  · rw [if_pos hc, List.mem_filter, mem_guardedRun _ _ _ _ h1]
    simp only [Bool.and_eq_true] at hc
    refine ⟨?_, ?_⟩
    · rintro ⟨⟨j, -, -, hpast, h0, -, rfl⟩, hmeets⟩
      simp only [meets, Bool.and_eq_true, decide_eq_true_eq] at hmeets
      exact ⟨hc.1, hc.2, j, (past j).1 hpast, h0, rfl, hmeets.1.1, hmeets.1.2, hmeets.2⟩
    · rintro ⟨-, -, j, hn, h0, rfl, ha, hb, hc'⟩
      exact ⟨⟨j, Nat.zero_le j, bound j hn hc', (past j).2 hn, h0, hc', rfl⟩, by simp [meets, ha, hb, hc']⟩
  · rw [if_neg hc]
    simp only [List.not_mem_nil, false_iff]
    rintro ⟨a, b, -⟩
    exact hc (by rw [a]; exact b)

/-- Expiry points computed afresh: an entry chosen gets its point, and leaves when that is due (R71). -/
theorem recomputeExpiry_eq (chosen : ClaimEntry → Bool) (h : ∀ c t, chosen { c with expiry := t } = chosen c) :
    let afresh (c : ClaimEntry) : Option ClaimEntry := match chosen c, s.expiryOf c with
      | true, none => some { c with expiry := none }
      | true, some t => if s.distance t ≤ 0 then none else some { c with expiry := some t }
      | false, _ => some c
    s.recomputeExpiry chosen = { s with ct := s.ct.filterMap afresh } := by
  intro afresh
  unfold State.recomputeExpiry State.onCt
  congr 1
  beta_reduce
  induction s.ct with
  | nil => rfl
  | cons c l ih =>
    rw [List.map_cons, List.filterMap_cons, List.filter_cons, ih]
    cases hc : chosen c <;> cases he : s.expiryOf c <;> simp [afresh, hc, he, h, State.dueSome, State.due]
    rename_i v
    by_cases hv : s.distance v ≤ 0 <;> simp [hv]

end Sys2Proof.Machine
end

