-- ==== Sys2Proof/Laws/LineBits.lean ====
section
/-! SUPPORT. What LC makes of the events of the line: the count toward line idle, the timing of stretches, the level at which a bad frame is
judged (R150, R159, R162). The stages of a reception. -/

namespace Sys2Proof.Machine

open Sys2Proof

/-- Following the line changes the receiver and the stretch alone, and the receiver goes by the events alone. -/
theorem LineController.foldl_follow (now : Time) (l : LineController) (line : List LineEvent) :
    line.foldl (LineController.follow now) l =
      { l with
        receiver := line.foldl Receiver.follow l.receiver
        stretch := (line.foldl (LineController.follow now) l).stretch } := by
  induction line generalizing l with
  | nil => rfl
  | cons e rest ih =>
    rw [List.foldl_cons, ih]
    rfl

/-- The receiver stays in IDLE and in FRAME, which commands of their own end (R150). -/
theorem Receiver.foldl_follow_stays {r : Receiver} (h : r = .idle ∨ r = .frame) (line : List LineEvent) :
    line.foldl Receiver.follow r = r := by
  induction line with
  | nil => rfl
  | cons e rest ih => rcases h with rfl | rfl <;> cases e <;> exact ih

/-- k recessive bits after n: WAIT IDLE counts them, and the 11th consecutive one ends in IDLE (R150). -/
theorem Receiver.follow_recessive {n : Nat} (h : n < 11) (k : Nat) :
    (List.replicate k LineEvent.recessiveBit).foldl Receiver.follow (.waitIdle n) = if n + k < 11 then .waitIdle (n + k) else .idle := by
  induction k generalizing n with
  | zero => simp [h]
  | succ k ih =>
    rw [List.replicate_succ, List.foldl_cons]
    by_cases hn : n + 1 < 11
    · have step : Receiver.follow (.waitIdle n) .recessiveBit = .waitIdle (n + 1) := by simp [Receiver.follow, Config.idleBits, hn]
      rw [step, ih hn]
      simp only [show n + 1 + k = n + (k + 1) by omega]
    · have step : Receiver.follow (.waitIdle n) .recessiveBit = .idle := by simp [Receiver.follow, Config.idleBits, hn]
      rw [step, Receiver.foldl_follow_stays (.inl rfl), if_neg (by omega)]

/-- Recessive bits on a recessive line bring no edge (R147). -/
theorem lineEvents_recessive (k : Nat) : lineEvents true (List.replicate k true) = List.replicate k .recessiveBit := by
  induction k with
  | zero => rfl
  | succ k ih => simp [List.replicate_succ, lineEvents, ih]

/-- Events have no row of their own when each, after those before it, has none. -/
theorem LineController.plainEvents_iff (now : Time) (l : LineController) (line : List LineEvent) :
    LineController.plainEvents now l line = true ↔
      ∀ before e after, line = before ++ e :: after → (before.foldl (LineController.follow now) l).plainEvent e = true := by
  induction line generalizing l with
  | nil => simp [LineController.plainEvents]
  | cons x rest ih =>
    rw [LineController.plainEvents, Bool.and_eq_true, ih]
    constructor
    · rintro ⟨h, hrest⟩ before e after heq
      cases before with
      | nil =>
        obtain ⟨rfl, -⟩ := List.cons.inj heq
        exact h
      | cons b before =>
        obtain ⟨rfl, hr⟩ := List.cons.inj heq
        exact hrest before e after hr
    · intro h
      exact ⟨h [] x rest rfl, fun before e after hr => h (x :: before) e after (by rw [hr]; rfl)⟩

/-! ## Bad frames and the stages of a reception -/

/-- A bad frame is judged on a recessive line, and a CRC failure no later than 3 µs into a dominant run (R148, R159). -/
theorem State.mayJudge_iff (s : State) (cause : BadFrameCause) :
    s.mayJudge cause = true ↔
      s.lc.stretch = none ∨ cause = .crc ∧ ∃ start, s.lc.stretch = some start ∧ 0 ≤ s.distance (later start 3) := by
  cases cause <;> cases h : s.lc.stretch <;> simp [State.mayJudge, Config.runStretch, h]
  exact decide_eq_true_iff

/-- Following the line leaves every distance as it was. -/
@[simp] theorem State.followLine_distance (s : State) (line : List LineEvent) (t : Time) : (s.followLine line).distance t = s.distance t := rfl

@[simp] theorem Reception.andThen_taken (a : α) (f : α → Reception β) : (Reception.taken a).andThen f = f a := rfl
@[simp] theorem Reception.andThen_bad (cause : BadFrameCause) (f : α → Reception β) : (Reception.bad cause).andThen f = .bad cause := rfl
@[simp] theorem Reception.andThen_unfinished (f : α → Reception β) : (Reception.unfinished : Reception α).andThen f = .unfinished := rfl
@[simp] theorem Reception.map_taken (f : α → β) (a : α) : (Reception.taken a).map f = .taken (f a) := rfl
@[simp] theorem Reception.map_bad (f : α → β) (cause : BadFrameCause) : (Reception.bad cause).map f = .bad cause := rfl
@[simp] theorem Reception.map_unfinished (f : α → β) : (Reception.unfinished : Reception α).map f = .unfinished := rfl

/-- What a reception goes on with is taken exactly when both stages are. -/
theorem Reception.andThen_eq_taken {r : Reception α} {f : α → Reception β} {b : β} :
    r.andThen f = .taken b ↔ ∃ a, r = .taken a ∧ f a = .taken b := by
  cases r <;> simp

/-- A frame is received exactly when it is taken at the judgement of the bits (R159). -/
theorem receiveBits_eq_some {line : List Bool} {f : Frame} : receiveBits line = some f ↔ judgeBits line = .taken f := by
  unfold receiveBits
  cases judgeBits line <;> simp

end Sys2Proof.Machine
end

