-- ==== Sys2Proof/WellFormed.lean ====
section
/-! DEFINITION. Well-formed commands: the ones that some event of the part's pins can be. -/

namespace Sys2Proof

/-- The whole bytes of a transaction hold a record with this body length: kind byte, length byte, body (R192, R193). -/
def holdsRecord (whole body : Nat) : Bool := body + 2 ≤ whole

/-- The bytes of a SUBMIT body: 22, or 24 with a min duration (R202). -/
def SubmitRecord.bodyLength (r : SubmitRecord) : Nat := if r.minDuration.isSome then 24 else 22

/-- What the port makes of a transaction agrees with its whole bytes and its kind byte (R193). -/
def PortRecord.wellFormed (whole : Nat) : PortRecord → Bool
  | .noRecord => true
  | .unknownKind kind => 1 ≤ whole && kind != 0 && (recordLength kind).isNone
  | .badLength kind => 1 ≤ whole && (recordLength kind).isSome

/-- A command that some event of the pins can be: an advance counts no more RC cycles than a monitor window has, a window closes before
the 24th edge of a microsecond, no more bits of CXL end than a microsecond can hold, and the whole bytes of a transaction hold the record
it carries (R1, R9, R147, R193, R202). -/
def Instr.wellFormed : Instr → Bool
  | .microsecondAdvance rc _ _ line => rc ≤ Config.windowCycles && line.count .recessiveBit ≤ Config.bitsAtMost
  | .lineIdle line => line.count .recessiveBit ≤ Config.bitsAtMost
  | .badFrame line _ => line.count .recessiveBit ≤ Config.bitsAtMost
  | .monitorWindowClose edges => edges < Config.edgesPerMicrosecond
  | .transactionEnd whole r => r.wellFormed whole
  | .setup whole _ _ _ => holdsRecord whole 75
  | .submit whole r => holdsRecord whole r.bodyLength
  | .cancel whole _ => holdsRecord whole 1
  | .profileSelect whole _ => holdsRecord whole 1
  | .fastSpan whole _ => holdsRecord whole 5
  | .clearLine whole => holdsRecord whole 0
  | .clearAck whole => holdsRecord whole 0
  | .alarmClear whole _ => holdsRecord whole 2
  | .meterRead whole => holdsRecord whole 0
  | .statusRead whole => holdsRecord whole 0
  | .timeRead whole => holdsRecord whole 0
  | .resetAssert _ | .resetRelease _ | .epochBoundary | .commitPoint | .placedStart _ | .placedEnd _ | .actLevelTaken
  | .countDeadline | .rqRise _ | .rqFall | .fastEnd | .quietDeadline _ | .lostDeadline _ | .leaseDeadline _ _ | .expiryPoint _ _
  | .joiningEnd | .acknowledgeDeadline | .startMark | .arbitrationLost | .ownStartMarkReported | .frameSent
  | .readbackMismatch | .driveFault | .beaconReceived _ _ | .claimReceived _ _ _ | .withdrawReceived _ _ | .ownNumberFrame
  | .lineClearDetected | .lineStuckDetected | .dominantStretchEnd | .clearDriveEnd | .csnFall
  | .fbChangeDuringReset _ => true

end Sys2Proof
end

