-- ==== Sys2Proof/Tests/Slice0.lean ====
section
/-! SUPPORT. Own tests: ill-formed commands refused, bytes and line bits written out from the formats, the manual's worked examples, and for
each statement with hypotheses a state and operands that meet them, clause by clause at a boundary value. -/

namespace Sys2Proof.Tests

open Sys2Proof Sys2Proof.Machine

/-! ## States to test on -/

/-- The profile of the examples. -/
def profile : Profile :=
  { share := 400, allowance := 6000, fastEnable := true, fastMax := 2000, fastMin := 300, guardTime := 20, vict := ⟨20, 35, 50, 60⟩,
    aggr := ⟨25, 40, 55, 70⟩, same := 100 }

/-- Station 1 in UNSET. -/
def unset : State := State.afterReset 1 false

/-- Station 1 in RUNNING at 10,000 µs, the first epoch having begun at 0. -/
def running : State :=
  { unset with
    params := ⟨2000, 3, 10⟩
    tb := { unset.tb with localTime := 10000, timerRunning := true, lastBoundary := some 0, nextBoundary := some 16384 }
    pe := { unset.pe with joining := .running }
    ps := ⟨some profile, some profile, some .a, none⟩
    gd := { unset.gd with rq := ⟨true, false, 0⟩, fastSpan := some ⟨2402, 2480⟩, fastPower := some 2 }
    am := { unset.am with act := ⟨true, false, 0⟩, shareTarget := some 400 } }

/-- Station 1 in JOINING, before its FRESH beacon. -/
def joining : State :=
  { running with
    pe := { running.pe with joining := .joining }
    pr := { running.pr with freshOwed := true } }

/-- Station 1 in HALTED. -/
def halted : State := running.enterHalted

/-- An entry of tag 6: STREAM, periodic, 1,000 µs with 250 µs slack. -/
def entry (state : EntryState) (windowStart : Time) (placement : Option Placement) : Entry :=
  { request :=
      { tag := 6, startOffset := 0, duration := 1000, slack := 250, period := some 7500, count := 3, dir := .rx, low := 2440, high := 2441,
        power := 0, cls := .stream, minDuration := some 600 }
    effClass := .stream, sequence := 0, index := 0, windowStart := windowStart, commitPoint := windowStart - 2000, state := state
    announced := false, lastAnnounced := none, held := false, stage := .taken, placement := placement, counters := ⟨0, 0, 0, 0, 0, 0⟩ }

/-- The same entry holding its last occurrence. -/
def lastEntry (state : EntryState) (windowStart : Time) (placement : Option Placement) : Entry :=
  { entry state windowStart placement with index := 2 }

/-- A state whose book is one entry. -/
def withEntry (s : State) (e : Entry) : State := { s with book := [e] }

/-- A claim of station 3 with a time guard on either side of its window. -/
def claim (anchor : Time) (window : Nat) : ClaimEntry :=
  { station := 3, tag := 9, cls := .critical, dir := .tx, power := 3, low := 2440, high := 2450, window := window, period := none
    remaining := some 1, anchorLocal := anchor, anchorOffset := 0, lastAnnouncement := anchor, lease := anchor + 163840, expiry := none }

/-- A state that has heard station 3 at 9,000 µs. -/
def heard (s : State) : State :=
  s.updatePeer 3 fun r => { r with
    state := .live, lastHeard := some 9000, quietDeadline := some 10000, lostDeadline := some 10000, senderEpoch := some 16384
    driftCount := 8, lastFresh := some false }

/-- A state taking a frame latched at 9,990 µs. -/
def inFrame (s : State) : State := { s with lc := { s.lc with receiver := .frame, latch := some 9990 } }

/-- A state with a number of notices queued. -/
def withNotices (n : Nat) (s : State) : State :=
  { s with rp := { s.rp with queue := List.replicate n (.lineCleared .self 0), attn := true } }

/-- A state in a transaction that fixed the head notice. -/
def inTransaction (s : State) : State := { s with rp := { s.rp with transaction := some ⟨s.rp.queue.head?⟩ } }

/-- A SUBMIT of a SINGLE request at the horizon. -/
def submitRecord : SubmitRecord :=
  { tag := 12, periodic := false, startOffset := 4000000, duration := 1000, slack := 500, period := 0, count := 0, dir := 1, low := 2440
    high := 2441, power := 0, cls := 2, minDuration := none }

/-- A profile as SETUP writes it. -/
def profileRecord : ProfileRecord :=
  { share := 400, allowance := 6000, fastEnable := 1, fastMax := 2000, fastMin := 300, guardTime := 20, vict := ⟨20, 35, 50, 60⟩
    aggr := ⟨25, 40, 55, 70⟩, same := 100 }

/-- A SETUP with a lead below its range and an epoch above it. -/
def setupRecord : SetupRecord :=
  { lead := 100, epochUnits := 70, debounce := 3, grace := 10, alertMask := 0, holdMask := 0x0004, fastLow := 2402, fastHigh := 2480
    fastPower := 2, initial := 0, profileA := profileRecord, profileB := profileRecord }

/-- A beacon of a peer with an epoch of 16,384 µs. -/
def beacon : BeaconBody :=
  { timestamp := 5000000, credit := 120, epochUnits := 16, liveCount := 0, fresh := false, hold := false, profileB := false }

/-- A claim body with the least window. -/
def claimBody : ClaimBody :=
  { tag := 9, cls := 4, dir := 0, power := 3, low := 40, high := 50, window := 10, anchorOffset := 500, period := 0, remaining := 0 }

/-! ## Well-formed commands: an ill-formed term for each check -/

theorem test_wf_advance : Instr.wellFormed (.microsecondAdvance 2049 false false) = false := by decide
theorem test_wf_advance_line : Instr.wellFormed (.microsecondAdvance 8 false false (List.replicate 4 .recessiveBit)) = false := by decide
theorem test_wf_lineIdle : Instr.wellFormed (.lineIdle (List.replicate 4 .recessiveBit)) = false := by decide
theorem test_wf_badFrame : Instr.wellFormed (.badFrame (List.replicate 4 .recessiveBit)) = false := by decide
theorem test_wf_window : Instr.wellFormed (.monitorWindowClose 24) = false := by decide
theorem test_wf_unknownKind : Instr.wellFormed (.transactionEnd 2 (.unknownKind 5)) = false := by decide
theorem test_wf_unknownKind_empty : Instr.wellFormed (.transactionEnd 0 (.unknownKind 12)) = false := by decide
theorem test_wf_badLength : Instr.wellFormed (.transactionEnd 2 (.badLength 12)) = false := by decide
theorem test_wf_setup : Instr.wellFormed (.setup 76 false false setupRecord) = false := by decide
theorem test_wf_submit : Instr.wellFormed (.submit 23 submitRecord) = false := by decide
theorem test_wf_submit_min : Instr.wellFormed (.submit 25 { submitRecord with minDuration := some 600 }) = false := by decide
theorem test_wf_cancel : Instr.wellFormed (.cancel 2 6) = false := by decide
theorem test_wf_select : Instr.wellFormed (.profileSelect 2 0) = false := by decide
theorem test_wf_fastSpan : Instr.wellFormed (.fastSpan 6 ⟨2402, 2480, 2⟩) = false := by decide
theorem test_wf_alarmClear : Instr.wellFormed (.alarmClear 3 0) = false := by decide
theorem test_wf_reads : [Instr.clearLine 1, .clearAck 1, .meterRead 1, .statusRead 1, .timeRead 1].map Instr.wellFormed =
    [false, false, false, false, false] := by decide
theorem test_wf_accepts : [Instr.setup 77 false false setupRecord, .submit 24 submitRecord, .cancel 3 6, .timeRead 2,
    .transactionEnd 1 (.badLength 2)].map Instr.wellFormed = [true, true, true, true, true] := by decide

/-! ## Bytes and line bits written out -/

/-- SUBMIT of tag 12, SINGLE, at 5,000 µs, 1,000 µs, RX 2440 to 2441 MHz, class 2, written byte by byte (R202). -/
theorem test_submit_bytes : transactionCommand false false
    [2, 22, 12, 0, 0, 0, 0x13, 0x88, 0x03, 0xE8, 0x01, 0xF4, 0, 0, 0, 0, 0, 1, 0x09, 0x88, 0x09, 0x89, 0, 2] =
    .submit 24 { submitRecord with startOffset := 5000 } := by decide
theorem test_cancel_bytes : transactionCommand false false [3, 1, 6] = .cancel 3 6 := by decide
theorem test_alarmClear_bytes : transactionCommand false false [8, 2, 0x04, 0x02] = .alarmClear 4 0x0402 := by decide
theorem test_time_bytes : transactionCommand false false [11, 0] = .timeRead 2 := by decide
theorem test_short_bytes : transactionCommand false false [3, 1] = .transactionEnd 2 (.badLength 3) := by decide
theorem test_unknown_bytes : transactionCommand false false [12, 0] = .transactionEnd 2 (.unknownKind 12) := by decide
theorem test_kind_zero : transactionCommand false false [0, 9, 9] = .transactionEnd 3 .noRecord := by decide

/-- The table of commands gives no row any bits. -/
theorem test_no_table_words : decodeTableWord 8 1 = none := rfl

/-- The keys of the arbitration example (section 9.2): station 2 CLAIM 18, station 5 SHORT CLAIM 13, station 6 WITHDRAW 6. -/
theorem test_keys : arbitrationKey .claim 2 = 18 ∧ arbitrationKey .shortClaim 5 = 13 ∧ arbitrationKey .withdraw 6 = 6 := by decide

/-- A start mark, key 6 and tag 30 as the line carries them before the CRC: 0, 00110, 00011110. -/
theorem test_withdraw_bits : (unstuffedBits ⟨6, .withdraw 30⟩).take 14 =
    [false, false, false, true, true, false, false, false, false, true, true, true, true, false] := by decide

/-- Five equal bits are followed by their opposite (R148). -/
theorem test_stuffing : stuffFrom true 0 [false, false, false, false, false, false] =
    [false, false, false, false, false, true, false] := by decide

set_option maxRecDepth 20000 in
theorem test_withdraw_received : commandOfLine 1 (lineBits ⟨6, .withdraw 30⟩) = some (.withdrawReceived 6 30) := by decide

set_option maxRecDepth 20000 in
/-- Lines of dominant bits alone begin with no frame, however long, and a frame whose stuffed part begins with five dominant bits. -/
theorem test_witness_FramesAreReceived : (List.replicate 180 false).head? = some false ∧ 180 ≤ (List.replicate 180 false).length ∧
    receiveBits (List.replicate 180 false) = none ∧ (0 : BitVec 16) ≠ crcOf (frameBits ⟨6, .withdraw 30⟩) ∧
    (stuffFrom true 0 (unstuffedBits ⟨0, .withdraw 30⟩)).take 5 = List.replicate 5 false := by decide

set_option maxRecDepth 20000 in
/-- A dominant level in the end mark, a wrong last CRC bit, judged at once, six equal levels, and a frame that has not ended (R159). -/
theorem test_bad_line :
    let line := lineBits ⟨6, .withdraw 30⟩
    commandOfLine 1 (line.set (line.length - 1) false) = some (.badFrame [] .endMark) ∧
      commandOfLine 1 ((line.take (line.length - 8)) ++ [!(line.getD (line.length - 8) false)]) = some (.badFrame [] .crc) ∧
      commandOfLine 1 (List.replicate 6 false) = some (.badFrame [] .stuffDominant) ∧
      commandOfLine 1 (false :: List.replicate 6 true) = some (.badFrame [] .stuffRecessive) ∧
      commandOfLine 1 (line.take (line.length - 1)) = none := by decide

set_option maxRecDepth 20000 in
theorem test_own_number_received : commandOfLine 6 (lineBits ⟨6, .withdraw 30⟩) = some .ownNumberFrame := by decide

/-! ## The manual's worked examples -/

/-- Distances across the wrap (section 1.1). -/
theorem test_distances : signedDistance 4294960000 2000 = 9296 ∧ signedDistance 4294960000 4294959000 = -1000 := by decide

/-- The drift samples of R54. -/
theorem test_drift_samples :
    [driftSample 1 16384, driftSample (-1) 16384, driftSample 4 16384, driftSample 2 32768] = [977, -977, 3200, 977] := by decide

/-- The drift example: D = 900 with sample 977 becomes 919. -/
theorem test_drift_filter : (PeerRecord.takeOffset { PeerRecord.fresh 6 with
    drift := 900, driftCount := 5, lastOffset := some 4000450, offsetLatch := some 1000000 } 4000451 1016384).drift = 919 := by decide

/-- Projecting occurrence 20 (section 4.5), from anchor local 1,020,000. -/
theorem test_projection : ({ claim 1020000 1250 with anchorOffset := 6000, period := some 7500, remaining := none }).occupied 919 10 20 =
    (155985, 157247) := by decide

/-- The placement example (R102): CLIP at 2,000,270 with 530 µs; without min duration the occurrence is skipped. -/
theorem test_placement_clip : place (blockedPieces [(2000800, 2001120), (1999880, 2000270)]) 2000000 600 400 (some 300) =
    .clip 2000270 530 := by decide
theorem test_placement_skip : place (blockedPieces [(2000800, 2001120), (1999880, 2000270)]) 2000000 600 400 none =
    .skipStrongerPeer := by decide

/-- Touching guards (section 5.3). -/
theorem test_touching_guards : meets (2000270, 2000800) (1999880, 2000270) = false ∧ meets (2000270, 2000800) (2000799, 2001121) = true := by
  decide

/-- Spectral cases 1 and 2 (section 5.2). -/
theorem test_spectral : separation 2440 2441 2402 2422 = 18 ∧ separation 2440 2441 5170 5250 = 2729 ∧
    spectralConflict profile ⟨.stream, .rx, 0, 2440, 2441⟩ { claim 0 10 with low := 2402, high := 2422 } = true := by decide

/-- Ranking an own STREAM activity of station 1 with credit 57 (section 5.4). -/
theorem test_rank : [(⟨.stream, -120, 0⟩ : Rank), ⟨.link, 400, 3⟩, ⟨.stream, 57, 5⟩, ⟨.critical, -900, 6⟩].map
    (fun peer => peer.stronger ⟨.stream, 57, 1⟩) = [false, false, false, true] := by decide

/-- R14: direction code 3 is TXRX, power class 4 is 3, class 5 is CRITICAL, and min duration 9 is 10; each is listed. -/
theorem test_submit_clamps :
    let taken := takeSubmit { submitRecord with dir := 3, power := 4, cls := 5, minDuration := some 9 }
    taken.clamped = [8, 11, 12, 13] ∧ taken.value.dir = .txrx ∧ taken.value.power = 3 ∧ taken.value.cls = .critical ∧
      taken.value.minDuration = some 10 := by decide

/-- Loads of the demotion example (section 2.2). -/
theorem test_critical_load : { (entry .waiting 0 none).request with cls := .critical }.criticalLoad 16384 = 3750 := by decide

/-- The close of epoch 20 in the credit example (section 8.3). -/
theorem test_meter_close : let m := Meter.close { unset.am with
      ring := [5000, 6200, 4800, 7100, 5900, 4300, 6000, 5700], usage := 9100, shareTarget := some 400, stagedTarget := some 250 } 16384 21
    m.credit = 26 ∧ m.shareTarget = some 250 := by decide

/-- The windows of the wandering reference (section 1.5). -/
theorem test_verdicts : [6144, 6759, 6700, 5400, 0].map verdictOf = [.inRange, .outOfRange, .inRange, .outOfRange, .noReference] := by
  decide

/-- R199: a lead of 100 becomes 200 and an epoch of 70 units 64; both are listed. -/
theorem test_setup_clamps : (takeSetup setupRecord).clamped = [1, 2] ∧ (takeSetup setupRecord).value.lead = 200 ∧
    (takeSetup setupRecord).value.epochLength = 65536 := by decide

/-- Book order (R20): the earlier window start first, then the earlier admission, and no RETIRING entry. -/
theorem test_book_order :
    let e (tag : Tag) (windowStart : Time) (sequence : Nat) (state : EntryState) : Entry :=
      let made := entry state windowStart none
      { made with request := { made.request with tag := tag }, sequence := sequence }
    ({ running with book := [e 1 12000 3 .waiting, e 2 12000 1 .waiting, e 3 11000 5 .waiting, e 4 10500 0 .retiring] }.bookOrder.map
      Entry.tag) = [3, 2, 1] := by decide

/-- R67: a claim of 9 µs is discarded, and one of 10 µs taken. -/
theorem test_claim_range : (takeClaim 3 { claimBody with window := 9 } 0).isSome = false ∧ (takeClaim 3 claimBody 0).isSome = true := by
  decide

/-! ## Witnesses: a state and operands that meet the hypotheses of each statement, clause by clause -/

/-- A state with RSTn low. -/
def low (s : State) : State := { s with pins := { s.pins with rstLow := true } }

/-- A state whose notice queue begins with this notice, in a transaction that shifts it out. -/
def shifting (n : Notice) (s : State) : State :=
  { s with rp := { queue := n :: s.rp.queue, attn := true, transaction := some ⟨some n⟩ } }

/-- Queued frames for some tags. -/
def frames (n : Nat) (ref : Tag → FrameRef) : List QueuedFrame := (List.range n).map fun i => ⟨ref (BitVec.ofNat 8 (100 + i)), i⟩

/-- A state with this transmit queue. -/
def withQueue (s : State) (queue : List QueuedFrame) : State := { s with lc := { s.lc with queue := queue } }

/-- A state with some flags set. -/
def withFlags (s : State) (flags : FlagSet) : State := { s with au := { s.au with flags := flags } }

theorem test_witness_StepTakesFront : { unset with pending := [.csnFall, .lineIdle] }.pending = [.csnFall, .lineIdle] ∧ unset.pending = [] := by
  decide

theorem test_witness_LocalTimeMoves : (∃ t, exec .csnFall running = .next t) ∧
    (∃ t, exec (.microsecondAdvance 1 false false) running = .next t ∧ t.tb.localTime = running.tb.localTime + 1) ∧
    ∃ t, exec (.resetAssert false) running = .next t ∧ t.tb.localTime = 0 := ⟨⟨_, rfl⟩, ⟨_, rfl, by decide⟩, ⟨_, rfl, by decide⟩⟩

theorem test_witness_HaltedStands : halted.halted = true ∧ (∀ sa, Instr.statusRead 2 ≠ .resetRelease sa) ∧
    ∃ t, exec (.statusRead 2) halted = .next t := ⟨by decide, nofun, ⟨_, rfl⟩⟩

theorem test_witness_FlagsStay : Alarm.inSet .stationClash (0x020 : FlagSet) = true ∧
    (∃ t, exec (.resetRelease 1) (low (withFlags running 0x020)) = .next t ∧ Alarm.inSet .stationClash t.au.flags = false) ∧
    (∃ t, exec (.alarmClear 4 0x0020) (withFlags running 0x020) = .next t ∧ Alarm.inSet .stationClash t.au.flags = false) ∧
    (∃ t, exec (.clearAck 2) { withFlags running 0x400 with lc := { running.lc with ack := .expired } } = .next t ∧
      Alarm.inSet .clearUnacked t.au.flags = false) ∧
    ∃ t, exec (.withdrawReceived 3 9) (inFrame { withFlags (heard running) 0x004 with lc := { running.lc with goodRun := 63 } }) = .next t ∧
      Alarm.inSet .lineNoisy t.au.flags = false :=
  ⟨by decide, ⟨_, rfl, by decide⟩, ⟨_, rfl, by decide⟩, ⟨_, rfl, by decide⟩, ⟨_, rfl, by decide⟩⟩

theorem test_witness_ResetLineLow : running.pins.rstLow = false ∧ (low running).pins.rstLow = true ∧
    (∀ sa, Instr.csnFall ≠ .resetRelease sa) ∧ ∀ fb, Instr.csnFall ≠ .fbChangeDuringReset fb := ⟨by decide, by decide, nofun, nofun⟩

theorem test_witness_ResetRelease : (low running).pins.rstLow = true := by decide

/-! ### The radio port -/

theorem test_witness_Transactions_fall : running.pins.rstLow = false ∧ running.rp.transaction = none ∧ running.rp.queue = [] ∧
    (withNotices 1 running).rp.queue = [.lineCleared .self 0] ∧ (Notice.lineCleared .self 0).isAlert = false ∧
    (shifting (.alert none) running).rp.queue = [.alert none] := by decide

/-- The notice shifted out is 5 bytes long: 6 whole bytes are one too few, 7 take it out. -/
theorem test_witness_Transactions_rise :
    let s := shifting (.lineCleared .self 0) running
    s.rp.transaction = some ⟨some (.lineCleared .self 0)⟩ ∧ (Notice.lineCleared .self 0).length + 2 = 7 ∧ s.au.alert ≠ .owed ∧
      { s with au := { s.au with alert := .owed } }.au.alert = .owed ∧ (Notice.alert none).isAlert = true ∧
      { s with au := { s.au with newRaise := true } }.au.newRaise = true := by decide

theorem test_witness_PortAnswers : ((withNotices 31 running).riseCsn 2).freeNotices = 1 ∧ ((withNotices 32 running).riseCsn 2).freeNotices = 0 ∧
    (Instr.cancel 3 6).risesWith = some 3 ∧ (withNotices 32 running).pins.rstLow = false ∧
    (withNotices 32 running).rp.transaction = none := by decide

theorem test_witness_RecordsRefused : halted.part = .halted ∧ unset.part = .unset ∧ running.joined = true ∧
    (Instr.cancel 3 6).recordKind = some 3 ∧ (Instr.timeRead 2).recordKind = some 11 ∧
    (Instr.setup 77 false false setupRecord).recordKind = some 1 ∧ 1 ≤ ((withNotices 30 halted).riseCsn 3).freeNotices := by decide

theorem test_witness_SetupAccepted : unset.pins.rstLow = false ∧ 1 ≤ ((withNotices 31 unset).riseCsn 77).freeNotices ∧ unset.part = .unset ∧
    unset.lc.queue = [] := by decide

/-! ### Records -/

/-- The request of a SUBMIT at the horizon, with a span of 1,000 MHz, on 15 entries with 16 frames queued. -/
theorem test_witness_SubmitAdmitted :
    let s := { withQueue running (frames 16 .claim) with book := List.replicate 15 (entry .waiting 0 none) }
    let q := (takeSubmit { submitRecord with high := 3440 }).value
    1 ≤ (s.riseCsn 24).freeNotices ∧ s.joined = true ∧ s.lc.ack = .noClear ∧ s.book.length < 16 ∧ (∀ x ∈ s.book, x.tag ≠ 12) ∧
      q.startOffset ≤ 4000000 ∧ q.low ≤ q.high ∧ q.high - q.low = 1000 ∧ q.period = none ∧ s.lc.queue.length < 17 ∧
      (∀ f ∈ s.lc.queue, f.ref.tagOf ≠ some 12) ∧ (s.newEntry q).held = false ∧ 0 < s.distance (s.newEntry q).commitPoint := by decide

/-- A PERIODIC request at its least period; a start offset of L puts the commit point at the present instant; a full queue holds a
WITHDRAW of the tag. -/
theorem test_witness_SubmitAdmitted_due :
    let s := withQueue running (⟨.withdraw 12, 40⟩ :: frames 16 .claim)
    let q := (takeSubmit { submitRecord with startOffset := 2000, periodic := true, period := 100, duration := 99, slack := 0 }).value
    s.lc.queue.length = 17 ∧ (∀ f ∈ s.lc.queue, f.ref ≠ .claim 12) ∧ (∃ f ∈ s.lc.queue, f.ref = .withdraw 12) ∧
      q.period = some 100 ∧ q.claimWindow = 99 ∧ (s.newEntry q).held = false ∧ s.distance (s.newEntry q).commitPoint = 0 := by decide

/-- A CRITICAL request whose load is the allowance, and one whose load passes it by 1 µs. -/
theorem test_witness_SubmitAdmitted_demoted :
    let q (slack : BitVec 16) : Request := (takeSubmit { submitRecord with cls := 4, slack := slack }).value
    (q 5000).cls = .critical ∧ running.profile.allowance = 6000 ∧ (q 5000).duration + (q 5000).slack = 6000 ∧
      (running.newEntry (q 5000)).effClass = .critical ∧ (running.newEntry (q 5001)).effClass = .stream := by decide

theorem test_witness_SubmitAdmitted_held : joining.joined = true ∧ (joining.newEntry (takeSubmit submitRecord).value).held = true := by decide

theorem test_witness_SubmitRefused :
    let full := { running with book := List.replicate 16 (entry .waiting 0 none) }
    let q := (takeSubmit submitRecord).value
    { running with lc := { running.lc with ack := .expired } }.lc.ack ≠ .noClear ∧ ¬ full.book.length < 16 ∧
      (∃ x ∈ (withEntry running (entry .waiting 0 none)).book, x.tag = 6) ∧
      ¬ { q with startOffset := 4000001 }.startOffset ≤ 4000000 ∧ ¬ { q with high := 3441 }.high - q.low ≤ 1000 ∧
      (takeSubmit { submitRecord with high := 3441 }).value.high = 3441 ∧
      (takeSubmit { submitRecord with periodic := true, period := 99 }).value.period = some 99 := by decide

theorem test_witness_CancelEnds : running.findEntry 6 = none ∧ (withEntry running (entry .retiring 0 none)).findEntry 6 = some (entry .retiring 0 none) ∧
    (withEntry running (entry .waiting 0 none)).findEntry 6 = some (entry .waiting 0 none) ∧ (entry .waiting 0 none).announced = false ∧
    ({ entry .active 0 none with announced := true }).state ≠ .retiring ∧
    ((frames 16 .claim).filter fun f => f.ref ≠ .claim 6 ∧ f.ref ≠ .withdraw 6).length = 16 := by decide

theorem test_witness_ProfileAndFastSpan : running.joined = true ∧ running.ps.inForce = some .a ∧
    [0, 1, 2].map (fun code => (takeProfileCode code).clamped) = [[], [], [1]] ∧
    (takeFastSpan ⟨2402, 3402, 2⟩).value.span = ⟨2402, 3402⟩ ∧ (takeFastSpan ⟨2402, 3403, 2⟩).value.span = ⟨2402, 3403⟩ ∧
    (takeFastSpan ⟨2403, 2402, 2⟩).value.span = ⟨2403, 2402⟩ ∧ (3 : PowerClass).val = min 3 (4 : Byte).toNat ∧
    changedFields [(1, false), (2, true), (3, true)] = [2, 3] := by decide

theorem test_witness_ClearLineStarts : running.joined = true ∧ 1 ≤ ((withNotices 31 running).riseCsn 2).freeNotices ∧
    running.pins.rstLow = false := by decide

theorem test_witness_ClearAckAlarmClear : unset.halted = false ∧ unset.lc.ack = .noClear ∧
    { running with lc := { running.lc with ack := .expired } }.lc.ack ≠ .noClear ∧
    1 ≤ ((withNotices 31 running).riseCsn 4).freeNotices := by decide

theorem test_witness_Reads : running.joined = true ∧ unset.halted = false ∧ halted.pins.rstLow = false ∧
    1 ≤ ((withNotices 31 running).riseCsn 2).freeNotices := by decide

theorem test_witness_NoticeOffered : (withNotices 29 running).rp.queue.length = 29 ∧ (withNotices 30 running).rp.queue.length = 30 := by decide

theorem test_witness_AlarmRaised : Alarm.inSet .viewGap (withFlags running 0x040).au.flags = true ∧
    Alarm.inSet .viewGap running.au.flags = false ∧ Alarm.inSet .viewGap (0x040 : FlagSet) = true ∧ running.au.alert = .none ∧
    Alarm.inSet .viewGap running.au.alertMask = false ∧ (withNotices 31 running).rp.queue.length < 32 ∧
    32 ≤ (withNotices 32 running).rp.queue.length ∧ ((shifting (.alert (some (0, false))) running).alertComposed) = true := by decide

/-! ### Timebase, book and windows -/

/-- The counts at which an advance may act; and, for each event of the line, the states in which it has a row of its own. -/
theorem test_witness_Advance :
    let line (receiver : Receiver) (stretch : Option Time) (detected : Bool) : State :=
      { running with lc := { running.lc with receiver := receiver, stretch := stretch, clearDetected := detected } }
    running.mayAdvance 2048 [] = true ∧ running.mayAdvance 2049 [] = false ∧
      [line .frame (some 9969) false, line .frame (some 9968) false, line .frame (some 9968) true].map (·.mayAdvance 8 []) = [true, false, true] ∧
      [line (.waitIdle 9) none false, line (.waitIdle 10) none false, line (.waitIdle 9) (some 9990) false].map
        (·.mayAdvance 8 [.recessiveBit]) = [true, false, false] ∧
      [line (.waitIdle 10) none false, line .idle none false].map (·.mayAdvance 8 [.fall]) = [true, false] ∧
      [line .frame (some 9990) false, line .frame (some 9960) true].map (·.mayAdvance 8 [.rise]) = [true, false] ∧
      (line .idle none false).mayAdvance 8 (List.replicate 4 .recessiveBit) = false := by decide

/-- WAIT IDLE counts the 7 bits of an end mark and 4 more (R150): the 10th of them is not line idle, the 11th is, and a dominant bit between
sets the count back to 0. -/
theorem test_line_idle :
    [[true, true, true], [true, true, true, true], [true, true, false, true]].map
        (fun bits => (lineEvents true bits).foldl Receiver.follow (.waitIdle 7)) = [.waitIdle 10, .idle, .waitIdle 1] ∧
      [3, 4, 5].map (fun k => (Receiver.waitIdle 7).reachesIdle (List.replicate k .recessiveBit)) = [false, true, false] := by decide

/-- A stretch is timed from its falling edge in WAIT IDLE and in FRAME, and ends at its rising edge; the receiver is no matter (R162). -/
theorem test_stretch_timed :
    [Receiver.waitIdle 5, .frame].map (fun r =>
        let s := { running with lc := { running.lc with receiver := r } }
        ((s.followLine [.fall]).lc.stretch, (s.followLine [.fall, .rise]).lc.stretch, (s.followLine [.fall]).lc.receiver)) =
      [(some 10000, none, .waitIdle 0), (some 10000, none, .frame)] := by decide

/-- Monitor windows that close with count 0, at both ends of the range, and one beyond each; the 15th and the 16th window of a run; the 23rd
edge of a microsecond; and 2,048 cycles counted, with no further edge and with one. -/
theorem test_witness_MonitorWindow :
    let s (count cycles run : Nat) (m : MonitorState) : State :=
      { running with tb := { running.tb with windowCount := count, rcCycles := cycles, goodRun := run, monitor := m } }
    running.working = true ∧ running.tb.monitor = .clockOk ∧ [0, 5529, 5530, 6758, 6759].map (fun n => (s n 2048 0 .clockOk).mayClose 0) =
        [true, true, true, true, true] ∧
      (s 6736 2047 0 .clockOk).mayClose 23 = true ∧ (s 6737 2047 0 .clockOk).mayClose 23 = false ∧
      (s 6000 2048 0 .clockOk).mayClose 1 = false ∧ (s 6000 2048 14 .clockSuspect).tb.goodRun < 15 ∧
      15 ≤ (s 6000 2048 15 .clockSuspect).tb.goodRun := by decide

theorem test_witness_HaltedEntry : let s := { withNotices 28 running with book := [entry .waiting 20000 none] }
    (s.raiseAlarm .clockLost).rp.queue.length + s.bookOrder.length = 30 := by decide

theorem test_witness_EpochBoundary : let s := { running with tb := { running.tb with localTime := 16384 } }
    s.working = true ∧ s.tb.timerRunning = true ∧ s.tb.nextBoundary = some 16384 ∧ s.distance 16384 = 0 ∧ s.ps.pending = none ∧
      { s with ps := { s.ps with pending := some .b } }.ps.pending = some .b := by decide

/-- A commit point at the present instant, with the four decisions. -/
theorem test_witness_CommitPoint :
    let e := entry .waiting 12000 none
    let s := withEntry running e
    let beside (anchor : Time) (window : Nat) : State := { heard s with ct := [claim anchor window] }
    s.working = true ∧ s.bookOrder.find? (fun e => e.state = .waiting ∧ s.distance e.commitPoint ≤ 0) = some e ∧ s.findEntry e.tag = some e ∧
      (∀ x ∈ s.book, x.tag = e.tag → x = e) ∧ s.decide e = .grant 2000 1000 ∧
      (beside 12800 1000).decide e = .clip 2000 776 ∧ (beside 11900 2000).decide e = .skipStrongerPeer ∧
      { s with pe := joining.pe }.decide e = .skipJoining ∧ e.index.toNat + 1 < e.request.count ∧
      0 < s.distance (later e.windowStart 7500 - BitVec.ofNat 32 s.params.lead) ∧
      (withEntry running (lastEntry .waiting 12000 none)).findEntry 6 = some (lastEntry .waiting 12000 none) := by decide

/-- A skipped occurrence whose next commit point is the present instant, and one whose next commit point lies 1 µs later. -/
theorem test_witness_CommitPoint_immediate :
    let e (windowStart : Time) : Entry := entry .waiting windowStart none
    let s (windowStart : Time) : State := { withEntry running (e windowStart) with pe := joining.pe }
    (s 4500).decide (e 4500) = .skipJoining ∧ (s 4500).distance (later 4500 7500 - BitVec.ofNat 32 (s 4500).params.lead) = 0 ∧
      (s 4501).distance (later 4501 7500 - BitVec.ofNat 32 (s 4501).params.lead) = 1 ∧ (s 4500).params.lead ≤ 20000 ∧
      (e 4500).commitPoint = (e 4500).windowStart - BitVec.ofNat 32 (s 4500).params.lead ∧
      (s 4500).bookOrder.find? (fun x => x.state = .waiting ∧ (s 4500).distance x.commitPoint ≤ 0) = some (e 4500) := by decide

theorem test_witness_CommitChain :
    let e := entry .waiting 12000 none
    (withEntry running e).findEntry e.tag = some e ∧ running.params.lead ≤ 20000 ∧
      e.commitPoint = e.windowStart - BitVec.ofNat 32 running.params.lead ∧ (∀ p ∈ e.request.period, 100 ≤ p ∧ p ≤ 1000000) ∧
      running.distance e.commitPoint = 0 ∧ 0 < running.distance (entry .waiting 12001 none).commitPoint := by decide

theorem test_witness_EarliestPlacement : joining.part = .joining ∧ (entry .waiting 12000 none).effClass ≠ .critical ∧
    running.part ≠ .joining ∧ (∀ g ∈ [((2000800, 2001120) : Interval), (1999880, 2000270)], g.1 < g.2) ∧ 0 < 600 ∧
    (∀ m ∈ some 300, 0 < m ∧ m ≤ 600) := by decide

/-- The claim of a heard station, SINGLE and at the least period, and a drift at the end of its range (R54). -/
theorem test_witness_EarliestPlacement_blocking :
    let s := (heard running).updatePeer 3 fun r => { r with drift := 3200 }
    let periodic := { claim 12800 50 with period := some 100, remaining := none }
    ((s.findPeer 3).map PeerRecord.drift) = some 3200 ∧ (claim 12800 1000).period = none ∧ (claim 12800 1000).remaining = some 1 ∧
      (∀ p ∈ periodic.period, 100 ≤ p) ∧ ({ s with ct := [periodic] }.blocking (entry .waiting 12000 none).activity (2000, 3000)).length = 3 := by
  decide

theorem test_witness_WindowsAndJoining :
    let p : Placement := ⟨10000, 1000, false⟩
    let q : Placement := ⟨9000, 1000, false⟩
    (withEntry running (entry .committed 10000 p)).findEntry 6 = some (entry .committed 10000 p) ∧ running.distance p.start = 0 ∧
      running.distance (later q.start q.length) = 0 ∧ (withEntry running (lastEntry .active 9000 q)).findEntry 6 = some (lastEntry .active 9000 q) ∧
      (lastEntry .active 9000 q).request.count ≤ (lastEntry .active 9000 q).index.toNat + 1 ∧
      (entry .active 9000 q).index.toNat + 1 < (entry .active 9000 q).request.count ∧
      0 < running.distance (later 9000 7500 - BitVec.ofNat 32 running.params.lead) ∧
      running.distance (later 4500 7500 - BitVec.ofNat 32 running.params.lead) = 0 ∧ joining.working = true ∧
      { joining.pe with joiningEnd := some 10000 }.joiningEnd = some 10000 ∧ joining.distance 10000 = 0 := by decide

/-- A late claim that leaves a COMMITTED placement min duration or one microsecond less, and one that meets an ACTIVE placement. -/
theorem test_witness_LateRule :
    let p : Placement := ⟨12000, 1000, false⟩
    let q : Placement := ⟨9500, 1000, false⟩
    let s := heard running
    let late (anchor : Time) (e : Entry) (begins ends : Int) : List Interval := s.blockingOf e.activity (begins, ends) (claim anchor 500)
    s.findEntry 6 = none ∧ (withEntry s (entry .waiting 12000 none)).findEntry 6 = some (entry .waiting 12000 none) ∧
      (late 12624 (entry .committed 12000 p) 2000 3000).map Prod.fst = [2600] ∧
      (late 12623 (entry .committed 12000 p) 2000 3000).map Prod.fst = [2599] ∧ late 13100 (entry .committed 12000 p) 2000 3000 = [] ∧
      (late 10125 (entry .active 9500 q) 0 500).map Prod.fst = [101] ∧ (late 10023 (entry .active 9500 q) 0 500).map Prod.fst = [-1] := by
  decide

/-! ### Inputs and peers -/

/-- A level taken at d + 1 samples, and a stretch at its deadline that goes on, and one that the hold flag ends (R121). -/
theorem test_witness_ActAndCount :
    let s := { running with am := { running.am with act := ⟨true, true, 4⟩, overrun := .timing, countDeadline := some 10000 } }
    let holding := { s with au := { s.au with holdMask := Alarm.bit .grantOverrun }, gd := { s.gd with fallback := true } }
    s.working = true ∧ s.am.act.running = true ∧ s.params.debounce + 1 = s.am.act.samples ∧ s.am.overrun = .timing ∧
      s.am.countDeadline = some 10000 ∧ s.distance 10000 = 0 ∧ (s.raiseAlarm .grantOverrun).inStretch = true ∧
      holding.inStretch = true ∧ (holding.raiseAlarm .grantOverrun).inStretch = false := by decide

/-- A fast request that a claim leaves exactly the fast minimum, and one it leaves less. -/
theorem test_witness_FastRequests :
    let s := { heard running with gd := { running.gd with rq := ⟨true, false, 4⟩ } }
    let x : Activity := ⟨.link, .txrx, 2, 2402, 2480⟩
    s.working = true ∧ s.params.debounce + 1 ≤ s.gd.rq.samples ∧ s.gd.rq.level = false ∧ s.profile.fastEnable = true ∧ s.part ≠ .joining ∧
      s.profile.fastMax = 2000 ∧ s.profile.fastMin = 300 ∧ s.blocking x (0, 2000) = [] ∧
      ({ s with ct := [claim 10324 500] }.blocking x (0, 2000)).map Prod.fst = [300] ∧
      ({ s with ct := [claim 10323 500] }.blocking x (0, 2000)).map Prod.fst = [299] ∧
      { s.gd with rq := ⟨true, true, 4⟩ }.rq.level = true ∧ { s.gd with fast := .inForce 9000 10000 }.fast = .inForce 9000 10000 ∧
      s.distance 10000 = 0 ∧ joining.part = .joining := by decide

theorem test_witness_PeerDeadlines : (heard running).working = true ∧ ((heard running).pr.records.map (·.station)).Nodup ∧
    ((heard running).findPeer 3).map (fun r => (r.state, r.quietDeadline, r.lostDeadline)) = some (.live, some 10000, some 10000) ∧
    (heard running).distance 10000 = 0 := by decide

theorem test_witness_ClaimAndClearDeadlines :
    let c := { claim 9000 500 with lease := 10000, expiry := some 10000 }
    let s := { heard running with ct := [c] }
    s.working = true ∧ s.findClaim 3 9 = some c ∧ s.distance c.lease = 0 ∧
      { s.lc with ack := .awaiting 10000 }.ack = .awaiting 10000 := by decide

/-- A record in each state, with a claim of its station. -/
def peerIn (state : Liveness) (mismatch : Nat) : State :=
  let s := { inFrame (heard running) with ct := [claim 9000 500] }
  s.updatePeer 3 fun r => { r with state := state, mismatch := mismatch }

/-- A beacon to a record in each state; FRESH after a plain one is a restart; a live count that is that of the claims held, and one that is
not, the first and the second in a row. -/
theorem test_witness_BeaconReceived :
    let raised (n : BitVec 5) (mismatch : Nat) : Bool × Option Nat :=
      match exec (.beaconReceived 3 { beacon with liveCount := n }) (peerIn .live mismatch) with
      | .next t => (Alarm.viewGap.inSet t.au.flags, (t.findPeer 3).map PeerRecord.mismatch)
      | _ => (false, none)
    [Liveness.unheard, .live, .quiet, .lost].map (fun l => (peerIn l 0).receiving) = [true, true, true, true] ∧
      (3 : Station) ≠ (peerIn .live 0).station ∧ (peerIn .live 0).lc.latch = some 9990 ∧
      ((peerIn .live 0).findPeer 3).map PeerRecord.lastFresh = some (some false) ∧
      raised 1 1 = (false, some 0) ∧ raised 2 0 = (false, some 1) ∧ raised 2 1 = (true, some 1) := by decide

/-- Sixteen entries of station 3, the later of two announced first having the lower tag. -/
def full : State :=
  { inFrame (heard running) with ct := (List.range 16).map fun i =>
      { claim 9000 500 with tag := BitVec.ofNat 8 (40 - i), lastAnnouncement := if i ≤ 1 then 8000 else 9000 } }

/-- A claim that stands, one whose occurrence has ended, and one that is out of range; a seventeenth entry, and one of sixteen. -/
theorem test_witness_ClaimReceived :
    let s := inFrame (heard running)
    let entryOf (b : ClaimBody) : Option Bool := (takeClaim 3 b 9990).map fun c => s.dueSome (s.withDeadlines c).expiry
    s.receiving = true ∧ s.mayFollow [.fall, .rise] = true ∧ (s.findPeer 3).isSome = true ∧ (s.claimsOf 3).length < 16 ∧ entryOf claimBody = some false ∧
      entryOf { claimBody with anchorOffset := -500 } = some true ∧ entryOf { claimBody with window := 9 } = none ∧
      (full.claimsOf 3).length = 16 ∧ full.findClaim 3 9 = none ∧ (full.findClaim 3 40).isSome = true ∧
      (full.evictee (full.claimsOf 3)).map ClaimEntry.tag = some 39 := by decide

theorem test_witness_OtherFrames : let s := inFrame (heard running)
    let dominant (start : Time) : State := { s with lc := { s.lc with stretch := some start } }
    s.receiving = true ∧ s.mayFollow [.fall, .rise] = true ∧ (s.findPeer 3).isSome = true ∧ { s.lc with goodRun := 62 }.goodRun < 63 ∧
      ((dominant 9997).receiving && (dominant 9997).mayJudge .crc && !(dominant 9997).mayJudge .endMark) = true ∧
      (dominant 9996).mayJudge .crc = false ∧ (dominant 9969).receiving = true ∧ (dominant 9968).receiving = false ∧
      (dominant 9969).mayFollow [.rise] = true ∧ ((dominant 9969).followLine [.rise]).mayJudge .stuffDominant = true ∧
      63 ≤ { s.lc with goodRun := 63 }.goodRun ∧ { s.lc with badCount := 6 }.badCount < 7 ∧ 7 ≤ { s.lc with badCount := 7 }.badCount ∧
      [Liveness.unheard, .quiet, .lost].map (fun l => (peerIn l 0).receiving) = [true, true, true] := by decide

/-- Halves are rounded away from zero (R74): 16,000 µs at D = ±500 is moved by 1 µs. -/
theorem test_halves_away_from_zero : projected 500 16000 = 15999 ∧ projected (-500) 16000 = 16001 ∧ projected 500 15999 = 15999 := by decide

/-- The records and the claim of the projection clauses: three samples or fewer, and an expiry point at the lease and beyond it. -/
theorem test_witness_ProjectionRounding :
    (∀ (c : ClaimEntry) (t : Option Time), (fun x : ClaimEntry => x.station == 3) { c with expiry := t } = (c.station == 3)) ∧
    let s := heard running
    let suspect := { s with tb := { s.tb with monitor := .clockSuspect } }
    let c := claim 9000 500
    let r := { PeerRecord.fresh 3 with state := .live }
    suspect.marginRate { r with driftCount := 8 } = 200 ∧ s.marginRate { r with driftCount := 2 } = 50 ∧
      s.marginRate { r with driftCount := 3 } = 10 ∧ s.marginRate { r with state := .quiet, driftCount := 3 } = 50 ∧
      (s.findPeer c.station).isSome = true ∧ s.expiryOf { c with lease := 9505 } = some 9505 ∧ s.expiryOf { c with lease := 9504 } = none ∧
      s.expiryOf { c with remaining := none } = none := ⟨fun _ _ => rfl, by decide⟩

/-- Offset samples over 2,047 and 2,048 µs, of a step that is a jump and of the greatest that is none. -/
theorem test_witness_OffsetSample :
    let r := { PeerRecord.fresh 3 with lastOffset := some 100, offsetLatch := some 1000, driftCount := 2, drift := 40 }
    (r.takeOffset 100 3047).driftCount = 0 ∧ (r.takeOffset 100 3048).driftCount = 3 ∧ (r.takeOffset 103 3048).jumps = 1 ∧
      (r.takeOffset 102 3048).jumps = 0 ∧ (PeerRecord.fresh 3).lastOffset = none := by decide

/-! ### The line -/

theorem test_witness_TransmitQueue :
    let full := withQueue running (frames 17 .withdraw)
    (withQueue running (frames 16 .claim)).lc.queue.length < 17 ∧ 17 ≤ full.lc.queue.length ∧ full.findEntry 100 = none ∧
      (⟨.withdraw 100, 0⟩ : QueuedFrame) ∈ full.lc.queue ∧ (∀ g ∈ full.lc.queue, 0 ≤ g.asked ∧ (g ≠ ⟨.withdraw 100, 0⟩ → 0 ≠ g.asked)) ∧
      (withEntry running (entry .waiting 12000 none)).findEntry 6 = some (entry .waiting 12000 none) ∧
      full.headFrame = some ⟨.withdraw 100, 0⟩ ∧ running.lc.queue = [] ∧ running.findEntry 6 = none := by decide

theorem test_witness_Contention :
    let s := withQueue running (frames 1 .withdraw)
    s.working = true ∧ s.lc.stretch = none ∧ s.lc.clearDrive = none ∧ s.lc.contending = none ∧
      s.lc.inTransmission = none ∧ s.joined = true ∧ s.headFrame = some ⟨.withdraw 100, 0⟩ ∧ running.lc.queue = [] ∧ unset.joined = false ∧
      { s.lc with receiver := .idle }.receiver = .idle ∧ { s.lc with receiver := .waitIdle 8 }.receiver = .waitIdle 8 ∧ 8 + 3 = 11 ∧
      { s with lc := { s.lc with receiver := .waitIdle 8 } }.idleReached (List.replicate 3 .recessiveBit) = true ∧ (inFrame s).lc.receiver = .frame ∧
      { s.lc with contending := some ⟨.withdraw 100, .withdraw⟩ }.contending.isSome = true := by decide

theorem test_witness_OwnStartMark :
    let sending (ref : FrameRef) (key : KeyKind) : State :=
      { inFrame (withEntry running (entry .retiring 12000 none)) with
        lc := { (inFrame running).lc with queue := [⟨ref, 5⟩], contending := some ⟨ref, key⟩ } }
    (sending .beacon .beacon).working = true ∧ (sending .beacon .beacon).lc.receiver = .frame ∧
      (sending .beacon .beacon).lc.queue.find? (·.ref == .beacon) = some ⟨.beacon, 5⟩ ∧
      (sending (.claim 6) .claim).lc.queue.find? (·.ref == .claim 6) = some ⟨.claim 6, 5⟩ ∧
      ((sending (.withdraw 6) .withdraw).findEntry 6).map Entry.state = some .retiring ∧
      (sending (.withdraw 7) .withdraw).findEntry 7 = none ∧ joining.pr.freshOwed = true ∧ joining.pe.joining = .joining ∧
      joining.pr.firstFresh = none ∧ (∀ x ∈ (sending (.claim 6) .claim).book, x.tag = 6 → x = entry .retiring 12000 none) := by decide

/-- An own frame that was queued, with the frame as composed. -/
def ownFrame (ref : FrameRef) (body : FrameBody) : OwnFrame := ⟨⟨ref, 5⟩, 9990, ⟨1, body⟩⟩

theorem test_witness_OwnFrameEnds :
    let f := ownFrame .beacon (.beacon { beacon with fresh := true })
    let s := { running with lc := { running.lc with inTransmission := some f } }
    s.working = true ∧ s.lc.inTransmission = some f ∧ (∃ b : BeaconBody, f.frame.body = .beacon b ∧ b.fresh = true) ∧
      (∀ g ∈ s.lc.queue, g.ref ≠ .beacon) ∧ (∃ g ∈ [(⟨.beacon, 9⟩ : QueuedFrame)], g.ref = .beacon) ∧ s.lc.queue.length < 17 ∧
      (withEntry s (entry .waiting 12000 none)).findEntry 6 = some (entry .waiting 12000 none) ∧ s.findEntry 6 = none ∧
      (∃ g ∈ [(⟨.claim 6, 9⟩ : QueuedFrame)], g.ref.tagOf = (FrameRef.withdraw 6).tagOf) ∧ 17 ≤ (frames 17 .claim).length ∧
      { running.lc with contending := some ⟨.beacon, .beacon⟩ }.contending.isSome = true :=
  ⟨by decide, by decide, ⟨_, rfl, rfl⟩, by decide, by decide, by decide, by decide, by decide, by decide, by decide, by decide⟩

/-- A stretch at its 64th bit time and 1 µs short of it, in FRAME and in WAIT IDLE; one already detected; and none. -/
theorem test_witness_LineClear :
    let line (receiver : Receiver) (stretch : Option Time) (detected : Bool) : State :=
      { running with lc := { running.lc with receiver := receiver, stretch := stretch, clearDetected := detected } }
    running.working = true ∧ running.joined = true ∧ unset.joined = false ∧
      [line .frame (some 9968) false, line .frame (some 9969) false, line (.waitIdle 0) (some 9968) false, line (.waitIdle 0) (some 9969) false,
        line .frame (some 9968) true, line .idle none false].map State.clearDue = [true, false, true, false, false, false] := by decide

/-- A CLEAR_LINE 10 µs after a falling edge in WAIT IDLE (R163): the stretch goes on, and its clear is detected 32 µs after the edge. At line
idle the stretch begins at the record time. -/
theorem test_clear_joins_stretch :
    let detect (receiver : Receiver) (stretch : Option Time) (after : Nat) : Option Time × Bool :=
      let driven := ({ running with lc := { running.lc with receiver := receiver, stretch := stretch } }).handleClearLine
      match exec .lineClearDetected { driven with tb := { driven.tb with localTime := later 10000 after } } with
      | .next t => (t.lc.stretch, t.lc.clearDetected)
      | _ => (none, false)
    detect (.waitIdle 0) (some 9990) 22 = (some 9990, true) ∧ detect (.waitIdle 0) (some 9990) 21 = (some 9990, false) ∧
      detect .idle none 31 = (some 10000, false) ∧ detect .idle none 32 = (some 10000, true) := by decide

theorem test_witness_DominantStretch :
    let s := { running with lc := { running.lc with stretch := some 8000, clearDetected := true } }
    s.working = true ∧ s.au.stuckCondition = false ∧ s.distance (later 8000 2000) = 0 ∧ s.lc.clearDrive = none ∧
      { s.lc with clearDrive := some 10000 }.clearDrive = some 10000 ∧ s.distance 10000 = 0 ∧
      (inFrame running).lc.clearDetected = false ∧ (inFrame running).lc.clearDrive = none ∧
      (inFrame running).distance (later 9969 32) = 1 ∧ (inFrame running).distance (later 9968 32) = 0 := by decide

/-! ### Rank, spans, formats -/

theorem test_witness_RankDecides : (⟨.link, 400, 3⟩ : Rank).station ≠ (⟨.link, 400, 2⟩ : Rank).station ∧
    (⟨.link, 400, 1⟩ : Rank).stronger ⟨.link, 400, 2⟩ = true ∧ (⟨.link, 400, 2⟩ : Rank).stronger ⟨.link, 400, 3⟩ = true ∧
    PriorityClass.link.number < PriorityClass.stream.number ∧ (399 : Int) < 400 := by decide

theorem test_witness_SpectralTest : 2440 ≤ 2441 ∧ 2402 ≤ 2422 ∧ (claim 0 10).dir = .tx ∧ (entry .waiting 0 none).activity.dir = .rx ∧
    spectralConflict profile ⟨.stream, .rx, 0, 2440, 2441⟩ { claim 0 10 with low := 2501, high := 2501 } = false ∧
    spectralConflict profile ⟨.stream, .rx, 0, 2440, 2441⟩ { claim 0 10 with low := 2500, high := 2501 } = true := by decide

theorem test_witness_BlockedPiecesUnion : (∀ g ∈ [((0, 1) : Interval), (1, 2), (4, 5)], g.1 < g.2) ∧
    blockedPieces [(1, 2), (4, 5), (0, 1)] = [(0, 2), (4, 5)] := by decide

theorem test_witness_StuffedRuns : stuffFrom true 0 (List.replicate 5 false) = List.replicate 5 false ++ [true] ++ [] := by decide

theorem test_witness_RecordsAreRead : recordBytes (.cancel 3 6) = some [3, 1, 6] ∧ (Instr.cancel 3 6).risesWith = some 3 ∧
    (∀ whole a q r, Instr.cancel 3 6 ≠ .setup whole a q r) ∧ (List.replicate 7 true).length < 8 := ⟨by decide, by decide, nofun, by decide⟩

theorem test_witness_RecordsAreRead_longer : (Instr.cancel 6 6).risesWith = some (2 + [(6 : Byte)].length + [(9 : Byte)].length +
      [(8 : Byte), 7].length) ∧ (2 : Byte).toNat = [(6 : Byte)].length + [(9 : Byte)].length ∧
    (∀ whole r, Instr.cancel 6 6 ≠ .submit whole r) ∧ (List.replicate 13 (0 : Byte)).length = 13 := ⟨rfl, rfl, nofun, rfl⟩

/-- The rows of the table of R193. -/
theorem test_port_outcomes : ([[], [0, 5], [12], [255, 0], [1], [3, 0], [8, 2, 1], [3, 2, 6, 9, 8, 7]] : List (List Byte)).map
      (transactionCommand false false) =
    [.transactionEnd 0 .noRecord, .transactionEnd 2 .noRecord, .transactionEnd 1 (.unknownKind 12), .transactionEnd 2 (.unknownKind 255),
      .transactionEnd 1 (.badLength 1), .transactionEnd 2 (.badLength 3), .transactionEnd 3 (.badLength 8), .cancel 6 6] := by decide

/-- CANCEL of tag 6 bit by bit as MOSI carries it, with seven bits of a fourth byte (R192). -/
theorem test_cancel_bits : transactionOfBits false false
    ([false, false, false, false, false, false, true, true, false, false, false, false, false, false, false, true,
      false, false, false, false, false, true, true, false] ++ List.replicate 7 true) = .cancel 3 6 := by decide

/-- LINE_CLEARED by the own clear drive at 1 µs: the kind byte is 7; after the last bit MISO gives 0 (R192, R203). -/
theorem test_miso_bits :
    let r : RadioPort := ⟨[], true, some ⟨some (.lineCleared .self 1)⟩⟩
    (List.range 8).map r.miso = [false, false, false, false, false, true, true, true].map some ∧ r.miso 55 = some true ∧ r.miso 56 = some false ∧
      { r with transaction := none }.miso 0 = none := by decide

theorem test_witness_NoticeBytes : ({ running.rp with transaction := some ⟨none⟩ }).transaction = some ⟨none⟩ ∧ (∀ r, Notice.lineCleared .self 0 ≠ .statusReport r) ∧
    ∀ ring u c k o, Notice.lineCleared .self 0 ≠ .meterReport ring u c k o := ⟨by decide, nofun, nofun⟩

/-! ### Laws every step keeps -/

/-- A state that meets every law and takes a step. -/
theorem test_witness_laws : (∃ t, step { unset with pending := [.csnFall] } = .next t) ∧ unset.GntLaw ∧ unset.HoldLaw ∧ unset.BookLaw ∧
    unset.NoticeLaw ∧ unset.FastLaw := by
  refine ⟨⟨_, rfl⟩, ?_⟩
  unfold State.GntLaw State.HoldLaw State.BookLaw State.NoticeLaw State.FastLaw
  decide

theorem test_witness_laws_line : unset.QueueLaw ∧ unset.PeerLaw ∧ unset.ClaimLaw ∧ unset.QuietLaw ∧ unset.PlacementLaw ∧
    unset.LineLaw := by
  refine ⟨⟨by decide, by decide, by decide, List.forall_mem_nil _⟩, ⟨by decide, by decide⟩,
    ⟨by decide, by decide, List.forall_mem_nil _⟩, by unfold State.QuietLaw; decide, List.forall_mem_nil _,
    fun n h => by cases h; decide, nofun, by decide⟩

/-- In RUNNING, with the epoch in hand and usage up to the present instant. -/
theorem test_witness_MeterLawKept : { running with am := { running.am with usage := 10000 } }.MeterLaw := by
  refine ⟨by decide, by decide, by decide, by decide, by decide, by decide, by decide, ?_, nofun, ?_, ?_, by decide, by decide, by decide, ?_⟩
  · exact fun x h => by cases h; decide
  · exact fun x h => by cases h; decide
  · exact fun x h => by cases h; decide
  · exact fun _ _ => ⟨0, by decide, by decide, by decide, by decide⟩

end Sys2Proof.Tests
end

section
/-! SUPPORT. How a command keeps a relation between the state before and the state after it. -/

namespace Sys2Proof.Machine

/-- A command answers the effect of its event where the event comes about, and the state it was given elsewhere. -/
theorem occurs_cases {enabled : Bool} {effect : State → State} {s t : State} (h : occurs enabled effect s = .next t) :
    enabled = true ∧ t = effect s ∨ enabled = false ∧ t = s := by
  cases enabled
  · rw [occurs_of_disabled rfl] at h
    cases h
    exact .inr ⟨rfl, rfl⟩
  · rw [occurs_of_enabled rfl] at h
    cases h
    exact .inl ⟨rfl, rfl⟩

/-- A relation that holds of a state and itself, and that an event brings about, holds across the event's command. -/
theorem occurs_keeps {R : State → State → Prop} {enabled : Bool} {effect : State → State} {s t : State} (same : R s s)
    (comes : enabled = true → R s (effect s)) (h : occurs enabled effect s = .next t) : R s t := by
  rcases occurs_cases h with ⟨he, rfl⟩ | ⟨-, rfl⟩
  · exact comes he
  · exact same

/-- What follows an event leaves AM but for the overrun stretch (R141). -/
theorem State.Follows.am_cases {s t : State} (h : s.Follows t) : ∃ o start deadline,
    t.am = { s.am with overrun := o, stretchStart := start, countDeadline := deadline } := by
  by_cases ho : s.am.overrun = .clear
  · cases hi : t.inStretch
    · exact ⟨_, _, _, h.noStretch ho hi⟩
    · exact ⟨_, _, _, h.stretchBegins (.inl ho) hi⟩
  · cases hs : s.inStretch
    · cases hi : t.inStretch
      · exact ⟨_, _, _, h.stretchEnds ho hs hi⟩
      · exact ⟨_, _, _, h.stretchBegins (.inr hs) hi⟩
    · exact ⟨_, _, _, h.stretchStands ho hs⟩

/-- `nextFree` changes nothing but the count of reports. -/
@[simp] theorem State.nextFree_frame (s : State) :
    s.nextFree.pins = s.pins ∧ s.nextFree.station = s.station ∧ s.nextFree.params = s.params ∧ s.nextFree.halted = s.halted ∧
    s.nextFree.tb = s.tb ∧ s.nextFree.book = s.book ∧ s.nextFree.pr = s.pr ∧ s.nextFree.ct = s.ct ∧ s.nextFree.pe = s.pe ∧
    s.nextFree.gd = s.gd ∧ s.nextFree.am = s.am ∧ s.nextFree.lc = s.lc ∧ s.nextFree.ps = s.ps ∧ s.nextFree.au = s.au ∧
    s.nextFree.rp = s.rp ∧ s.nextFree.pending = s.pending := by
  simp [State.nextFree]

/-! ## What leaves the time and the meter alone -/

/-- `t` comes from `s` by a change that moves no time and meters nothing: local time, the epoch timer, the usage with its epochs, the share
targets and RSTn stand, and a part that changes its state goes from JOINING and RUNNING to one of them. -/
structure State.KeepsMeter (s t : State) : Prop where
  rstLow : t.pins.rstLow = s.pins.rstLow
  localTime : t.tb.localTime = s.tb.localTime
  epochLength : t.tb.epochLength = s.tb.epochLength
  timerRunning : t.tb.timerRunning = s.tb.timerRunning
  lastBoundary : t.tb.lastBoundary = s.tb.lastBoundary
  nextBoundary : t.tb.nextBoundary = s.tb.nextBoundary
  profileA : t.ps.profileA = s.ps.profileA
  profileB : t.ps.profileB = s.ps.profileB
  running : t.am.act.running = s.am.act.running
  usage : t.am.usage = s.am.usage
  ring : t.am.ring = s.am.ring
  credit : t.am.credit = s.am.credit
  shareTarget : t.am.shareTarget = s.am.shareTarget
  stagedTarget : t.am.stagedTarget = s.am.stagedTarget
  part : t.part = s.part ∨ s.joined = true ∧ t.joined = true

namespace State.KeepsMeter

variable {s t u : State}

theorem refl : s.KeepsMeter s := ⟨rfl, rfl, rfl, rfl, rfl, rfl, rfl, rfl, rfl, rfl, rfl, rfl, rfl, rfl, .inl rfl⟩

/-- A part that has not changed its state is joined as before. -/
theorem joined_eq (h : s.KeepsMeter t) : t.joined = s.joined := by
  rcases h.part with h | ⟨hs, ht⟩
  · rw [State.joined, State.joined, h]
  · rw [hs, ht]

theorem trans (h : s.KeepsMeter t) (k : t.KeepsMeter u) : s.KeepsMeter u where
  rstLow := k.rstLow.trans h.rstLow
  localTime := k.localTime.trans h.localTime
  epochLength := k.epochLength.trans h.epochLength
  timerRunning := k.timerRunning.trans h.timerRunning
  lastBoundary := k.lastBoundary.trans h.lastBoundary
  nextBoundary := k.nextBoundary.trans h.nextBoundary
  profileA := k.profileA.trans h.profileA
  profileB := k.profileB.trans h.profileB
  running := k.running.trans h.running
  usage := k.usage.trans h.usage
  ring := k.ring.trans h.ring
  credit := k.credit.trans h.credit
  shareTarget := k.shareTarget.trans h.shareTarget
  stagedTarget := k.stagedTarget.trans h.stagedTarget
  part := by
    rcases h.part with hp | ⟨hs, ht⟩
    · rcases k.part with kp | ⟨ht, hu⟩
      · exact .inl (kp.trans hp)
      · exact .inr ⟨h.joined_eq ▸ ht, hu⟩
    · exact .inr ⟨hs, k.joined_eq.trans ht⟩

/-- A change of other blocks moves no time. -/
theorem of_blocks (hpins : t.pins.rstLow = s.pins.rstLow := by simp) (htb : t.tb = s.tb := by simp) (hps : t.ps = s.ps := by simp)
    (ham : t.am = s.am := by simp) (hh : t.halted = s.halted := by simp) (hpe : t.pe = s.pe := by simp) : s.KeepsMeter t := by
  constructor
  case part => exact .inl (part_congr hh hpe)
  all_goals simp only [hpins, htb, hps, ham]

/-- What follows an event moves no time. -/
theorem of_follows (h : s.Follows t) : s.KeepsMeter t := by
  obtain ⟨o, start, deadline, ham⟩ := h.am_cases
  constructor
  case part => exact .inl (part_congr h.halted h.pe)
  all_goals simp only [h.pins, h.tb, h.ps, ham]

theorem settle (h : s.KeepsMeter t) : s.KeepsMeter t.settle := h.trans (of_follows (settle_follows t))

end State.KeepsMeter

end Sys2Proof.Machine
end

section
/-! SUPPORT. What each event can do, said once for each that may find nothing to do, and for each record handler. -/
namespace Sys2Proof.Machine

variable {s : State}

theorem takeCommitPoint_cases : s.takeCommitPoint = s ∨
    ∃ e, s.nextCommit = some e ∧ s.takeCommitPoint = (s.commitWhileDue e.tag).settle := by
  unfold State.takeCommitPoint
  cases s.nextCommit with
  | none => exact .inl rfl
  | some e => exact .inr ⟨e, rfl, rfl⟩

theorem takePlacedStart_cases (tag : Tag) : s.takePlacedStart tag = s ∨
    ∃ e, s.findEntry tag = some e ∧ s.takePlacedStart tag = (s.updateEntry tag Entry.opened).settle := by
  unfold State.takePlacedStart
  cases s.findEntry tag with
  | none => exact .inl rfl
  | some e =>
    by_cases h : s.startDue e = true
    · exact .inr ⟨e, rfl, if_pos h⟩
    · exact .inl (if_neg h)

theorem takePlacedEnd_cases (tag : Tag) : s.takePlacedEnd tag = s ∨
    ∃ e, s.findEntry tag = some e ∧ s.takePlacedEnd tag = (s.endOccurrence tag).settle := by
  unfold State.takePlacedEnd
  cases s.findEntry tag with
  | none => exact .inl rfl
  | some e =>
    by_cases h : s.endDue e = true
    · exact .inr ⟨e, rfl, if_pos h⟩
    · exact .inl (if_neg h)

theorem takeQuietDeadline_cases (st : Station) : s.takeQuietDeadline st = s ∨
    s.takeQuietDeadline st = ((s.updatePeer st PeerRecord.quiet).recomputeStation st).settle := by
  unfold State.takeQuietDeadline
  cases s.findPeer st with
  | none => exact .inl rfl
  | some r =>
    by_cases h : s.quietDue r = true
    · exact .inr (if_pos h)
    · exact .inl (if_neg h)

theorem takeLostDeadline_cases (st : Station) : s.takeLostDeadline st = s ∨
    s.takeLostDeadline st = ((s.updatePeer st PeerRecord.lost).dropClaims st).settle := by
  unfold State.takeLostDeadline
  cases s.findPeer st with
  | none => exact .inl rfl
  | some r =>
    by_cases h : s.lostDue r = true
    · exact .inr (if_pos h)
    · exact .inl (if_neg h)

theorem takeLeaseDeadline_cases (st : Station) (tag : Tag) :
    s.takeLeaseDeadline st tag = s ∨ s.takeLeaseDeadline st tag = s.removeClaim st tag := by
  unfold State.takeLeaseDeadline
  cases s.findClaim st tag with
  | none => exact .inl rfl
  | some c =>
    by_cases h : s.leaseDue c = true
    · exact .inr (if_pos h)
    · exact .inl (if_neg h)

theorem takeExpiryPoint_cases (st : Station) (tag : Tag) :
    s.takeExpiryPoint st tag = s ∨ s.takeExpiryPoint st tag = s.removeClaim st tag := by
  unfold State.takeExpiryPoint
  cases s.findClaim st tag with
  | none => exact .inl rfl
  | some c =>
    by_cases h : s.expiryDue c = true
    · exact .inr (if_pos h)
    · exact .inl (if_neg h)

/-- The report of an own start mark finds no contending frame to report, or hands the frame it composes to its block (R152, R154). -/
theorem reportStartMark_cases : s.reportStartMark = s ∨
    ∃ (c : Contender) (own : OwnFrame) (body : FrameBody), s.lc.contending = some c ∧ s.reportStartMark =
      ((s.dequeue c.ref).onLc fun l => { l with contending := none, inTransmission := some own }).handReport own.latch body := by
  unfold State.reportStartMark
  split
  · rename_i c latch hc _
    split
    · exact .inr ⟨c, ⟨_, latch, _⟩, _, hc, rfl⟩
    · exact .inl rfl
  · exact .inl rfl

/-- The frame sent is in transmission, or there is none (R154). -/
theorem takeFrameSent_cases : s.lc.inTransmission = none ∧ s.takeFrameSent = s ∨
    ∃ f owed, s.lc.inTransmission = some f ∧ s.takeFrameSent =
      (s.onLc fun l => { l with inTransmission := none, driver := .released, receiver := .waitIdle 7, latch := none, stretch := none }).onPr
        fun p => { p with freshOwed := owed } := by
  unfold State.takeFrameSent
  cases h : s.lc.inTransmission with
  | none => exact .inl ⟨rfl, rfl⟩
  | some f =>
    refine .inr ⟨f, if carriesFresh f.frame.body then false else s.pr.freshOwed, rfl, ?_⟩
    cases hf : carriesFresh f.frame.body <;> simp [hf, State.onLc, State.onPr]

/-- A complete frame is passed over without a latch, is a clash, or is handled and counted as good (R159, R161). -/
theorem takeFrame_cases (st : Station) (handle : Time → State) : s.takeFrame st handle = s ∨
    s.takeFrame st handle = s.takeOwnNumber ∨
    ∃ latch, s.takeFrame st handle = ((handle latch).countGood.endReception).settle := by
  unfold State.takeFrame
  by_cases h : st = s.station
  · exact .inr (.inl (if_pos h))
  · rw [if_neg h]
    cases s.lc.latch with
    | none => exact .inl rfl
    | some latch => exact .inr (.inr ⟨latch, rfl⟩)

/-! ## Records -/

/-- A record is handled after the removal step, or passed over (R193). -/
theorem takeRecord_cases (whole : Nat) (handle : State → State) :
    s.takeRecord whole handle = (handle (s.riseCsn whole)).settle ∨ s.takeRecord whole handle = (s.riseCsn whole).settle := by
  unfold State.takeRecord
  by_cases h : 1 ≤ (s.riseCsn whole).freeNotices
  · exact .inl (by simp only [if_pos h])
  · exact .inr (by simp only [if_neg h])

/-- A record taken in JOINING and RUNNING alone is handled there, and refused elsewhere (R197). -/
theorem whenJoined_cases (kind : Byte) (tag : Tag) (handle : State → State) :
    s.joined = true ∧ s.whenJoined kind tag handle = handle s ∨
      s.joined = false ∧ ∃ reason, s.whenJoined kind tag handle = s.refuse kind reason tag := by
  unfold State.whenJoined State.notTaken State.joined
  cases s.part
  case unset => exact .inr ⟨rfl, _, rfl⟩
  case halted => exact .inr ⟨rfl, _, rfl⟩
  case joining => exact .inl ⟨rfl, rfl⟩
  case running => exact .inl ⟨rfl, rfl⟩

theorem handleProfileSelect_cases (code : Byte) :
    (∃ reason, s.handleProfileSelect code = s.refuse kindProfileSelect reason 0) ∨
    s.joined = true ∧ s.handleProfileSelect code =
      (s.accept kindProfileSelect (takeProfileCode code).clamped).onPs fun p => p.select (takeProfileCode code).value := by
  rcases whenJoined_cases (s := s) kindProfileSelect 0 fun s =>
    (s.accept kindProfileSelect (takeProfileCode code).clamped).onPs fun p => p.select (takeProfileCode code).value with ⟨hj, h⟩ | ⟨-, h⟩
  · exact .inr ⟨hj, h⟩
  · exact .inl h

theorem handleFastSpan_cases (r : FastSpanRecord) :
    (∃ reason, s.handleFastSpan r = s.refuse kindFastSpan reason 0) ∨
    s.joined = true ∧ s.handleFastSpan r = (s.accept kindFastSpan (takeFastSpan r).clamped).onGd
      fun g => { g with fastSpan := some (takeFastSpan r).value.span, fastPower := some (takeFastSpan r).value.power } := by
  unfold State.handleFastSpan
  rcases whenJoined_cases (s := s) kindFastSpan 0 _ with ⟨hj, h⟩ | ⟨-, h⟩
  · rw [h]
    by_cases ht : spanTaken (takeFastSpan r).value.span.low (takeFastSpan r).value.span.high = true
    · exact .inr ⟨hj, by simp only [if_pos ht]⟩
    · exact .inl ⟨.badSpan, by simp only [if_neg ht]⟩
  · exact .inl h

theorem handleClearLine_cases :
    (∃ reason, s.handleClearLine = s.refuse kindClearLine reason 0) ∨
    s.joined = true ∧ s.handleClearLine = (s.accept kindClearLine []).onLc fun l => l.startClear s.now := by
  rcases whenJoined_cases (s := s) kindClearLine 0 fun s => (s.accept kindClearLine []).onLc fun l => l.startClear s.now with
    ⟨hj, h⟩ | ⟨-, h⟩
  · exact .inr ⟨hj, h⟩
  · exact .inl h

theorem handleMeterRead_cases :
    (∃ reason, s.handleMeterRead = s.refuse kindMeterRead reason 0) ∨
    s.joined = true ∧ s.handleMeterRead = (s.accept kindMeterRead []).offerNotice s.meterReport := by
  rcases whenJoined_cases (s := s) kindMeterRead 0 fun s => (s.accept kindMeterRead []).offerNotice s.meterReport with
    ⟨hj, h⟩ | ⟨-, h⟩
  · exact .inr ⟨hj, h⟩
  · exact .inl h

theorem handleSubmit_cases (r : SubmitRecord) :
    (∃ reason, s.handleSubmit r = s.refuse kindSubmit reason r.tag) ∨
    s.joined = true ∧ s.handleSubmit r = s.enterBook (takeSubmit r).value (takeSubmit r).clamped := by
  unfold State.handleSubmit
  rcases whenJoined_cases (s := s) kindSubmit r.tag _ with ⟨hj, h⟩ | ⟨-, h⟩
  · rw [h]
    cases hr : s.submitRefusal (takeSubmit r).value with
    | some reason => exact .inl ⟨reason, by simp only [hr]⟩
    | none => exact .inr ⟨hj, by simp only [hr]⟩
  · exact .inl h

theorem handleCancel_cases (tag : Tag) :
    (∃ reason, s.handleCancel tag = s.refuse kindCancel reason tag) ∨
    s.joined = true ∧ ∃ e, s.findEntry tag = some e ∧ e.standing = true ∧
      s.handleCancel tag = (s.reply kindCancel .accepted .none tag []).cancelEntry e := by
  unfold State.handleCancel
  rcases whenJoined_cases (s := s) kindCancel tag _ with ⟨hj, h⟩ | ⟨-, h⟩
  · rw [h]
    cases hf : s.findEntry tag with
    | none => exact .inl ⟨.unknownTag, rfl⟩
    | some e =>
      by_cases he : e.standing = true
      · exact .inr ⟨hj, e, rfl, he, by simp only [if_pos he]⟩
      · exact .inl ⟨.unknownTag, by simp only [if_neg he]⟩
  · exact .inl h

theorem handleClearAck_cases :
    s.handleClearAck = s.refuse kindClearAck .halted 0 ∨ s.handleClearAck = s.accept kindClearAck [] ∨
    s.handleClearAck = ((s.accept kindClearAck []).onLc fun l => { l with ack := .noClear }).clearAlarms (Alarm.bit .clearUnacked) := by
  unfold State.handleClearAck
  by_cases hh : s.halted = true
  · exact .inl (if_pos hh)
  · rw [if_neg hh]
    by_cases ha : s.lc.ack = .noClear
    · exact .inr (.inl (by simp only [if_pos ha]))
    · exact .inr (.inr (by simp only [if_neg ha]))

theorem handleAlarmClear_cases (flags : BitVec 16) :
    s.handleAlarmClear flags = s.refuse kindAlarmClear .halted 0 ∨
    s.handleAlarmClear flags = (s.accept kindAlarmClear []).clearAlarms (s.au.clearable (flagSetOf flags)) := by
  unfold State.handleAlarmClear
  by_cases hh : s.halted = true
  · exact .inl (if_pos hh)
  · exact .inr (if_neg hh)

theorem handleTimeRead_cases :
    s.handleTimeRead = s.refuse kindTimeRead .halted 0 ∨
    s.handleTimeRead = ((s.accept kindTimeRead []).offerNotice s.timeReport).nextFree := by
  unfold State.handleTimeRead
  by_cases hh : s.halted = true
  · exact .inl (if_pos hh)
  · exact .inr (if_neg hh)

/-- SETUP is accepted in UNSET alone (R198). -/
theorem handleSetup_cases (act rq : Bool) (r : SetupRecord) :
    (s.part ≠ .unset ∧ ∃ reason, s.handleSetup act rq r = s.refuse kindSetup reason 0) ∨
    s.part = .unset ∧ s.handleSetup act rq r =
      (s.accept kindSetup (takeSetup r).clamped).acceptSetup act rq (takeSetup r).value := by
  unfold State.handleSetup
  cases s.part
  case unset => exact .inr ⟨rfl, rfl⟩
  case halted => exact .inl ⟨nofun, _, rfl⟩
  case joining => exact .inl ⟨nofun, _, rfl⟩
  case running => exact .inl ⟨nofun, _, rfl⟩

/-- `acceptSetup` leaves the station number, the part's own counts, the book, CT and RP as they stand. -/
@[simp] theorem State.acceptSetup_frame (s : State) (act rq : Bool) (f : SetupFields) :
    (s.acceptSetup act rq f).station = s.station ∧ (s.acceptSetup act rq f).halted = s.halted ∧
    (s.acceptSetup act rq f).book = s.book ∧ (s.acceptSetup act rq f).ct = s.ct ∧ (s.acceptSetup act rq f).rp = s.rp ∧
    (s.acceptSetup act rq f).free = s.free ∧ (s.acceptSetup act rq f).pending = s.pending := by
  simp [State.acceptSetup]

/-- The profile in force at SETUP acceptance (R171, R199). -/
def SetupFields.initialProfile (f : SetupFields) : Profile :=
  match f.initial with
  | .a => f.profileA
  | .b => f.profileB

/-- What `acceptSetup` gives each of the blocks it changes, but LC (R198). -/
@[simp] theorem State.acceptSetup_blocks (s : State) (act rq : Bool) (f : SetupFields) :
    (s.acceptSetup act rq f).pins = { s.pins with act := act, rq := rq } ∧
    (s.acceptSetup act rq f).params = { lead := f.lead, debounce := f.debounce, grace := f.grace } ∧
    (s.acceptSetup act rq f).tb = s.tb.setUp f.epochLength ∧
    (s.acceptSetup act rq f).ps =
      { profileA := some f.profileA, profileB := some f.profileB, inForce := some f.initial, pending := none } ∧
    (s.acceptSetup act rq f).au = { s.au with
      alertMask := f.alertMask, holdMask := f.holdMask
      hold := { s.au with alertMask := f.alertMask, holdMask := f.holdMask : AlarmUnit }.holdRule } ∧
    (s.acceptSetup act rq f).am = s.am.setUp act f.initialProfile.share ∧
    (s.acceptSetup act rq f).gd = s.gd.setUp rq f.fast ∧
    (s.acceptSetup act rq f).pe = { s.pe with joining := .joining, joiningStart := none, joiningEnd := none } ∧
    (s.acceptSetup act rq f).pr = { s.pr with freshOwed := true, firstFresh := none } := by
  cases hi : f.initial <;>
    simp [State.acceptSetup, State.enterJoining, State.profile, State.workOutHold, AlarmUnit.holdRule, SetupFields.initialProfile, hi]

theorem answerPort_cases (r : PortRecord) : State.answerPort r s = s ∨ ∃ kind reason, State.answerPort r s = s.refuse kind reason 0 := by
  cases r with
  | noRecord => exact .inl rfl
  | unknownKind kind => exact .inr ⟨kind, _, rfl⟩
  | badLength kind => exact .inr ⟨kind, _, rfl⟩

end Sys2Proof.Machine
end

section
/-! SUPPORT. The commands that move no time and meter nothing. -/

namespace Sys2Proof

/-- The commands at which TB can change: those of the reset pin, the advance, the close of a window, the boundary and SETUP. -/
def Instr.movesTime : Instr → Bool
  | .resetAssert _ | .resetRelease _ | .microsecondAdvance _ _ _ _ | .monitorWindowClose _ | .epochBoundary | .setup _ _ _ _ => true
  | _ => false

end Sys2Proof

namespace Sys2Proof.Machine

variable {s t : State}

/-- A part in HALTED is not joined. -/
theorem not_halted_of_joined (hj : s.joined = true) : s.halted = false := by
  cases h : s.halted with
  | false => rfl
  | true => simp [State.joined, State.part, h] at hj

/-- A part in UNSET is not in HALTED. -/
theorem not_halted_of_unset (hp : s.part = .unset) : s.halted = false := by
  cases h : s.halted with
  | false => rfl
  | true => simp [State.part, h] at hp

/-- The blocks of a part in HALTED take no events. -/
theorem not_halted_of_working (hw : s.working = true) : s.halted = false := by
  cases h : s.halted with
  | false => rfl
  | true => simp [State.working, h] at hw

/-- A CSn rise moves no time when the handling of its record moves none. -/
theorem takeRecord_keepsMeter {whole : Nat} {handle : State → State} (h : ∀ b : State, b.KeepsMeter (handle b)) :
    s.KeepsMeter (s.takeRecord whole handle) := by
  have rise : s.KeepsMeter (s.riseCsn whole) := .of_blocks
  rcases takeRecord_cases (s := s) whole handle with e | e <;> rw [e]
  · exact .settle (rise.trans (h _))
  · exact .settle rise

/-- A frame of another station moves no time when its handling moves none. -/
theorem takeFrame_keepsMeter {st : Station} {handle : Time → State} (h : ∀ latch, s.KeepsMeter (handle latch)) :
    s.KeepsMeter (s.takeFrame st handle) := by
  rcases takeFrame_cases (s := s) st handle with e | e | ⟨latch, e⟩ <;> rw [e]
  · exact .refl
  · exact .settle .of_blocks
  · exact .settle ((h latch).trans .of_blocks)

/-- A report changes no part state: of PE it changes the ranking credit, and the joining start and end. -/
theorem reportBeacon_joining (latch : Time) (fresh : Bool) : (s.reportBeacon latch fresh).pe.joining = s.pe.joining := by
  unfold State.reportBeacon
  split <;> simp

theorem reportStartMark_keepsMeter : s.KeepsMeter s.reportStartMark := by
  constructor
  case part =>
    left
    rcases reportStartMark_cases (s := s) with e | ⟨c, own, body, -, e⟩ <;> rw [e]
    cases body <;> simp [State.part, State.handReport, reportBeacon_joining]
  all_goals simp

theorem endJoining_keepsMeter (hw : s.working = true) (hd : s.joiningEndDue = true) : s.KeepsMeter s.endJoining := by
  have hh := not_halted_of_working hw
  have hj : s.pe.joining = .joining := by
    simp only [State.joiningEndDue, Bool.and_eq_true, beq_iff_eq] at hd
    exact hd.1
  refine .settle ?_
  constructor
  case part => exact .inr ⟨by simp [State.joined, State.part, hh, hj], by simp [State.joined, State.part, hh]⟩
  all_goals rfl

theorem lineClear_keepsMeter : s.KeepsMeter s.lineClear := by
  constructor
  case part =>
    cases hj : s.joined with
    | false => exact .inl (part_congr (by simp) (by simp [State.lineClear, hj]))
    | true =>
      have hp : s.lineClear.pe.joining = .joining := by simp [State.lineClear, State.enterJoining, hj]
      exact .inr ⟨rfl, by simp [State.joined, State.part, not_halted_of_joined hj, hp]⟩
  all_goals simp

/-- A change of the ACT level or of the overrun state meters nothing. -/
theorem State.KeepsMeter.of_meter {f : Meter → Meter} (h : ∃ level samples o start deadline, f s.am =
    { s.am with act := { s.am.act with level := level, samples := samples }, overrun := o, stretchStart := start, countDeadline := deadline }) :
    s.KeepsMeter (s.onAm f) := by
  obtain ⟨_, _, _, _, _, h⟩ := h
  constructor
  case part => exact .inl rfl
  all_goals simp [h]

theorem endStretch_keepsMeter : s.KeepsMeter s.endStretch := by
  unfold State.endStretch
  split <;> exact .of_blocks

/-- A command of no block that moves time leaves the time and the meter alone. -/
theorem exec_keepsMeter {c : Instr} (hc : c.movesTime = false) (h : exec c s = .next t) : s.KeepsMeter t := by
  have comes : ∀ {enabled effect}, occurs enabled effect s = .next t → (enabled = true → s.KeepsMeter (effect s)) → s.KeepsMeter t :=
    fun h comes => occurs_keeps .refl comes h
  cases c with
  | resetAssert | resetRelease | microsecondAdvance | monitorWindowClose | epochBoundary | setup => cases hc
  | commitPoint =>
    refine comes h fun _ => ?_
    rcases takeCommitPoint_cases (s := s) with e | ⟨_, -, e⟩ <;> rw [e]
    · exact .refl
    · exact .settle .of_blocks
  | placedStart tag =>
    refine comes h fun _ => ?_
    rcases takePlacedStart_cases (s := s) tag with e | ⟨_, -, e⟩ <;> rw [e]
    · exact .refl
    · exact .settle .of_blocks
  | placedEnd tag =>
    refine comes h fun _ => ?_
    rcases takePlacedEnd_cases (s := s) tag with e | ⟨_, -, e⟩ <;> rw [e]
    · exact .refl
    · exact .settle .of_blocks
  | actLevelTaken => exact comes h fun _ => .settle (.of_meter ⟨_, _, _, _, _, rfl⟩)
  | countDeadline =>
    have counted : s.KeepsMeter (s.onAm fun m => { m with overrun := .counted, countDeadline := none }) := .of_meter ⟨_, _, _, _, _, rfl⟩
    exact comes h fun _ => .settle (counted.trans .of_blocks)
  | rqRise | rqFall | fastEnd => exact comes h fun _ => .settle .of_blocks
  | quietDeadline st =>
    refine comes h fun _ => ?_
    rcases takeQuietDeadline_cases (s := s) st with e | e <;> rw [e]
    · exact .refl
    · exact .settle .of_blocks
  | lostDeadline st =>
    refine comes h fun _ => ?_
    rcases takeLostDeadline_cases (s := s) st with e | e <;> rw [e]
    · exact .refl
    · exact .settle .of_blocks
  | leaseDeadline st tag =>
    refine comes h fun _ => ?_
    rcases takeLeaseDeadline_cases (s := s) st tag with e | e <;> rw [e]
    · exact .refl
    · exact .of_blocks
  | expiryPoint st tag =>
    refine comes h fun _ => ?_
    rcases takeExpiryPoint_cases (s := s) st tag with e | e <;> rw [e]
    · exact .refl
    · exact .of_blocks
  | joiningEnd =>
    refine comes h fun he => ?_
    obtain ⟨hw, hd⟩ := (Bool.and_eq_true _ _).mp he
    exact endJoining_keepsMeter hw hd
  | lineIdle | startMark | arbitrationLost | readbackMismatch => exact comes h fun _ => .of_blocks
  | csnFall => exact comes h fun _ => .of_blocks
  | clearDriveEnd => exact comes h fun _ => .of_blocks rfl rfl rfl rfl rfl rfl
  | ownStartMarkReported => exact comes h fun _ => reportStartMark_keepsMeter
  | frameSent =>
    refine comes h fun _ => ?_
    rcases takeFrameSent_cases (s := s) with ⟨-, e⟩ | ⟨_, _, -, e⟩ <;> rw [e]
    · exact .refl
    · exact .of_blocks
  | driveFault =>
    refine comes h fun _ => ?_
    unfold State.takeDriveFault
    split <;> exact .settle .of_blocks
  | beaconReceived =>
    unfold exec execBeaconReceived at h
    exact comes h fun _ => takeFrame_keepsMeter fun _ => .of_blocks
  | claimReceived | withdrawReceived => exact comes h fun _ => takeFrame_keepsMeter fun _ => .of_blocks
  | acknowledgeDeadline | ownNumberFrame | lineStuckDetected => exact comes h fun _ => .settle .of_blocks
  | badFrame =>
    unfold exec execBadFrame at h
    exact comes h fun _ => .settle .of_blocks
  | lineClearDetected =>
    unfold exec execLineClearDetected at h
    exact comes h fun _ => .settle lineClear_keepsMeter
  | dominantStretchEnd => exact comes h fun _ => endStretch_keepsMeter
  | fbChangeDuringReset => exact comes h fun _ => .of_blocks rfl rfl rfl rfl rfl rfl
  | transactionEnd whole r =>
    refine comes h fun _ => takeRecord_keepsMeter fun b => ?_
    rcases answerPort_cases (s := b) r with e | ⟨_, _, e⟩ <;> rw [e]
    · exact .refl
    · exact .of_blocks
  | submit _ r =>
    refine comes h fun _ => takeRecord_keepsMeter fun b => ?_
    rcases handleSubmit_cases (s := b) r with ⟨_, e⟩ | ⟨-, e⟩ <;> rw [e] <;> exact .of_blocks
  | cancel _ tag =>
    refine comes h fun _ => takeRecord_keepsMeter fun b => ?_
    rcases handleCancel_cases (s := b) tag with ⟨_, e⟩ | ⟨-, _, -, -, e⟩ <;> rw [e] <;> exact .of_blocks
  | profileSelect _ code =>
    refine comes h fun _ => takeRecord_keepsMeter fun b => ?_
    rcases handleProfileSelect_cases (s := b) code with ⟨_, e⟩ | ⟨-, e⟩ <;> rw [e]
    · exact .of_blocks
    · exact .trans (.of_blocks (t := b.accept _ _)) ⟨rfl, rfl, rfl, rfl, rfl, rfl, rfl, rfl, rfl, rfl, rfl, rfl, rfl, rfl, .inl rfl⟩
  | fastSpan _ r =>
    refine comes h fun _ => takeRecord_keepsMeter fun b => ?_
    rcases handleFastSpan_cases (s := b) r with ⟨_, e⟩ | ⟨-, e⟩ <;> rw [e] <;> exact .of_blocks
  | clearLine _ =>
    refine comes h fun _ => takeRecord_keepsMeter fun b => ?_
    rcases handleClearLine_cases (s := b) with ⟨_, e⟩ | ⟨-, e⟩ <;> rw [e] <;> exact .of_blocks
  | clearAck _ =>
    refine comes h fun _ => takeRecord_keepsMeter fun b => ?_
    rcases handleClearAck_cases (s := b) with e | e | e <;> rw [e] <;> exact .of_blocks
  | alarmClear _ flags =>
    refine comes h fun _ => takeRecord_keepsMeter fun b => ?_
    rcases handleAlarmClear_cases (s := b) flags with e | e <;> rw [e] <;> exact .of_blocks
  | meterRead _ =>
    refine comes h fun _ => takeRecord_keepsMeter fun b => ?_
    rcases handleMeterRead_cases (s := b) with ⟨_, e⟩ | ⟨-, e⟩ <;> rw [e] <;> exact .of_blocks
  | statusRead _ =>
    refine comes h fun _ => takeRecord_keepsMeter fun b => ?_
    unfold State.handleStatusRead
    exact .of_blocks
  | timeRead _ =>
    refine comes h fun _ => takeRecord_keepsMeter fun b => ?_
    rcases handleTimeRead_cases (s := b) with e | e <;> rw [e] <;> exact .of_blocks

end Sys2Proof.Machine
end

section
/-! O59: the ring, the usage and the credit stay in range. -/

namespace Sys2Proof.Machine

open Sys2Proof

variable {s t : State}

/-! ## The close of a window -/

/-- A window that is not one without reference moves no time (R10). -/
theorem judgeWindow_keepsMeter {v : Verdict} (hv : v ≠ .noReference) : s.KeepsMeter (s.judgeWindow v) := by
  have suspect : s.KeepsMeter s.enterSuspect := by
    constructor
    case part => exact .inl (part_congr (by simp [State.enterSuspect]) (by simp [State.enterSuspect]))
    all_goals simp [State.enterSuspect]
  have leave : s.KeepsMeter s.leaveSuspect := by
    constructor
    case part => exact .inl (part_congr (by simp [State.leaveSuspect]) (by simp [State.leaveSuspect]))
    all_goals simp [State.leaveSuspect]
  have run : ∀ n : Timebase → Nat, s.KeepsMeter (s.onTb fun t => { t with goodRun := n t }) := fun n =>
    ⟨rfl, rfl, rfl, rfl, rfl, rfl, rfl, rfl, rfl, rfl, rfl, rfl, rfl, rfl, .inl rfl⟩
  unfold State.judgeWindow
  split
  · exact absurd rfl hv
  · split
    · exact run fun t => t.goodRun + 1
    · exact leave
  · exact suspect
  · exact run fun _ => 0
  all_goals exact .refl

/-- The close of a window moves no time, but for the entry to HALTED at one without reference (R10, R11). -/
theorem closeWindow_cases (edges : Nat) : s.KeepsMeter (s.closeWindow edges) ∨
    s.closeWindow edges = ((s.onTb (Timebase.closeWindow edges)).enterHalted).settle := by
  have closed : s.KeepsMeter (s.onTb (Timebase.closeWindow edges)) :=
    ⟨rfl, rfl, rfl, rfl, rfl, rfl, rfl, rfl, rfl, rfl, rfl, rfl, rfl, rfl, .inl rfl⟩
  unfold State.closeWindow
  by_cases hv : verdictOf (s.tb.windowCount + edges) = .noReference
  · right
    rw [hv]
    rfl
  · exact .inl (.settle (closed.trans (judgeWindow_keepsMeter hv)))

/-- A SETUP moves no time, but for one accepted in UNSET (R198). -/
theorem takeSetup_cases (whole : Nat) (act rq : Bool) (r : SetupRecord) :
    s.KeepsMeter (s.takeRecord whole (State.handleSetup act rq r)) ∨
    s.part = .unset ∧ s.takeRecord whole (State.handleSetup act rq r) =
      (((s.riseCsn whole).accept kindSetup (takeSetup r).clamped).acceptSetup act rq (takeSetup r).value).settle := by
  have rise : s.KeepsMeter (s.riseCsn whole) := .of_blocks
  rcases takeRecord_cases (s := s) whole (State.handleSetup act rq r) with e | e
  · rcases handleSetup_cases (s := s.riseCsn whole) act rq r with ⟨-, _, hr⟩ | ⟨hp, hr⟩
    · rw [e, hr]
      exact .inl (.settle (rise.trans .of_blocks))
    · rw [e, hr]
      exact .inr ⟨by rw [← hp]; exact (part_congr (by simp) (by simp)).symm, rfl⟩
  · rw [e]
    exact .inl (.settle rise)

/-- Local time moves at the advance and with RSTn alone (R1). -/
theorem localTime_cases {c : Instr} (h : exec c s = .next t) : t.tb.localTime = s.tb.localTime ∨
    (∃ rc act rq line, c = .microsecondAdvance rc act rq line ∧ t.tb.localTime = s.tb.localTime + 1) ∨
    ((∃ fb, c = .resetAssert fb) ∨ ∃ sa, c = .resetRelease sa) ∧ t.tb.localTime = 0 := by
  cases hc : c.movesTime with
  | false => exact .inl (exec_keepsMeter hc h).localTime
  | true =>
    cases c with
    | resetAssert fb =>
      rcases occurs_cases h with ⟨-, rfl⟩ | ⟨-, rfl⟩
      · exact .inr (.inr ⟨.inl ⟨fb, rfl⟩, rfl⟩)
      · exact .inl rfl
    | resetRelease sa =>
      rcases occurs_cases h with ⟨-, rfl⟩ | ⟨-, rfl⟩
      · exact .inr (.inr ⟨.inr ⟨sa, rfl⟩, rfl⟩)
      · exact .inl rfl
    | microsecondAdvance rc act rq line =>
      rcases occurs_cases h with ⟨-, rfl⟩ | ⟨-, rfl⟩
      · exact .inr (.inl ⟨rc, act, rq, line, rfl, by simp [State.advance, Timebase.advance]⟩)
      · exact .inl rfl
    | monitorWindowClose edges =>
      rcases occurs_cases h with ⟨-, rfl⟩ | ⟨-, rfl⟩
      · left
        rcases closeWindow_cases (s := s) edges with k | e
        · exact k.localTime
        · rw [e]
          simp [State.enterHalted, Timebase.halt, Timebase.closeWindow]
      · exact .inl rfl
    | epochBoundary =>
      unfold exec execEpochBoundary at h
      rcases occurs_cases h with ⟨-, rfl⟩ | ⟨-, rfl⟩
      · exact .inl (by simp [State.takeBoundary, Timebase.boundary])
      · exact .inl rfl
    | setup whole act rq r =>
      rcases occurs_cases h with ⟨-, rfl⟩ | ⟨-, rfl⟩
      · left
        rcases takeSetup_cases (s := s) whole act rq r with k | ⟨-, e⟩
        · exact k.localTime
        · rw [e]
          simp [Timebase.setUp]
      · exact .inl rfl
    | _ => cases hc

/-! ## The law of the meter, field by field -/

/-- The law of the meter with its parts by name. -/
structure State.Metered (s : State) : Prop where
  ringLength : s.am.ring.length = 8
  ringLe : ∀ u ∈ s.am.ring, u ≤ s.tb.epochLength
  usageLe : s.am.usage ≤ s.tb.epochLength
  creditLeast : -1000 ≤ s.am.credit
  creditMost : s.am.credit ≤ 1000
  epochLeast : 4096 ≤ s.tb.epochLength
  epochMost : s.tb.epochLength ≤ 65536
  share : shareInRange s.am.shareTarget
  staged : shareInRange s.am.stagedTarget
  profileA : shareInRange (s.ps.profileA.map (·.share))
  profileB : shareInRange (s.ps.profileB.map (·.share))
  timed : s.am.act.running = true → s.tb.timerRunning = true
  stopped : s.joined = false → s.am.act.running = false ∧ s.tb.timerRunning = false
  ringUnset : s.part = .unset → ∀ u ∈ s.am.ring, u = 0
  inHand : s.pins.rstLow = false → s.tb.timerRunning = true → s.epochInHand

theorem meterLaw_iff : s.MeterLaw ↔ s.Metered :=
  ⟨fun ⟨h1, h2, h3, h4, h5, h6, h7, h8, h9, h10, h11, h12, h13, h14, h15⟩ =>
      ⟨h1, h2, h3, h4, h5, h6, h7, h8, h9, h10, h11, h12, h13, h14, h15⟩,
    fun ⟨h1, h2, h3, h4, h5, h6, h7, h8, h9, h10, h11, h12, h13, h14, h15⟩ =>
      ⟨h1, h2, h3, h4, h5, h6, h7, h8, h9, h10, h11, h12, h13, h14, h15⟩⟩

/-- What moves no time keeps the law of the meter. -/
theorem State.KeepsMeter.metered (k : s.KeepsMeter t) (h : s.Metered) : t.Metered where
  ringLength := by rw [k.ring]; exact h.ringLength
  ringLe := by rw [k.ring, k.epochLength]; exact h.ringLe
  usageLe := by rw [k.usage, k.epochLength]; exact h.usageLe
  creditLeast := by rw [k.credit]; exact h.creditLeast
  creditMost := by rw [k.credit]; exact h.creditMost
  epochLeast := by rw [k.epochLength]; exact h.epochLeast
  epochMost := by rw [k.epochLength]; exact h.epochMost
  share := by rw [k.shareTarget]; exact h.share
  staged := by rw [k.stagedTarget]; exact h.staged
  profileA := by rw [k.profileA]; exact h.profileA
  profileB := by rw [k.profileB]; exact h.profileB
  timed := by rw [k.running, k.timerRunning]; exact h.timed
  stopped := by rw [k.joined_eq, k.running, k.timerRunning]; exact h.stopped
  ringUnset := fun hp => by
    rw [k.ring]
    refine h.ringUnset ?_
    rcases k.part with e | ⟨-, hj⟩
    · exact e.symm.trans hp
    · rw [State.joined, hp] at hj
      cases hj
  inHand := fun hr hr' => by
    rw [k.rstLow] at hr
    rw [k.timerRunning] at hr'
    obtain ⟨lb, hl, hn, hu, hd⟩ := h.inHand hr hr'
    exact ⟨lb, by rw [k.lastBoundary, hl], by rw [k.nextBoundary, k.epochLength, hn], by rw [k.usage, State.now, k.localTime]; exact hu,
      by rw [State.now, k.localTime, k.epochLength]; exact hd⟩

/-- The boundary that ends the epoch in hand lies as many microseconds ahead as the epoch has left (R2, R7). -/
theorem distance_boundary {lb : Time} {n : Nat} (hd : (s.now - lb).toNat ≤ n) (hn : n ≤ 65536) :
    s.distance (later lb n) = n - (s.now - lb).toNat := by
  have he : later lb n - s.now = BitVec.ofNat 32 n - (s.now - lb) := by
    rw [later]
    bv_omega
  rw [State.distance, signedDistance, he]
  generalize s.now - lb = d at *
  rw [BitVec.toInt_eq_toNat_of_lt] <;> rw [BitVec.toNat_sub, BitVec.toNat_ofNat] <;> omega

/-- An advance counts one microsecond of usage at the most (R134). -/
theorem Meter.advance_usage_le (act : Bool) (m : Meter) : (m.advance act).usage ≤ m.usage + 1 := by
  unfold Meter.advance
  dsimp only
  split <;> omega

/-- A meter that does not run counts none (R134). -/
theorem Meter.advance_usage_stopped {act : Bool} {m : Meter} (h : m.act.running = false) : (m.advance act).usage = m.usage := by
  simp [Meter.advance, h]

/-- A sample leaves the filter running or stopped (R133). -/
theorem Filter.sample_running (f : Filter) (pin : Bool) : (f.sample pin).running = f.running := by
  unfold Filter.sample
  split
  · rfl
  · split <;> rfl

/-- The advance of local time stays in the epoch in hand, because it waits for the boundary (R2, R7, R134). -/
theorem advance_metered {rc : Nat} {act rq : Bool} {line : List LineEvent} (hm : s.mayAdvance rc line = true) (h : s.Metered) :
    (s.advance rc act rq line).Metered := by
  have boundary : s.tb.timerRunning = true → s.epochInHand → ∃ lb, s.tb.lastBoundary = some lb ∧
      s.tb.nextBoundary = some (later lb s.tb.epochLength) ∧ s.am.usage ≤ (s.now - lb).toNat ∧
      (s.now - lb).toNat < s.tb.epochLength := by
    rintro ht ⟨lb, hl, hn, hu, hd⟩
    have hdue : s.boundaryDue = false := by
      cases hb : s.boundaryDue with
      | false => rfl
      | true => simp [State.mayAdvance, State.anyDue, hb] at hm
    have hpos : ¬ s.distance (later lb s.tb.epochLength) ≤ 0 := by
      simpa [State.boundaryDue, ht, hn, State.dueSome, State.due] using hdue
    rw [distance_boundary hd h.epochMost] at hpos
    exact ⟨lb, hl, hn, hu, by omega⟩
  refine (State.KeepsMeter.of_follows (settle_follows _)).metered ?_
  constructor
  case usageLe =>
    cases ht : s.tb.timerRunning with
    | true =>
      have hr : s.pins.rstLow = false := by
        cases hr : s.pins.rstLow with
        | false => rfl
        | true => simp [State.mayAdvance, State.working, hr] at hm
      obtain ⟨lb, -, -, hu, hd⟩ := boundary ht (h.inHand hr ht)
      have hone := Meter.advance_usage_le act s.am
      simp only [State.onGd_am, State.onAm_am, State.onTb_am, State.onPins_am, State.followLine_frame, State.onGd_tb, State.onAm_tb,
        State.onTb_tb, State.onPins_tb, Timebase.advance]
      omega
    | false =>
      have hs : s.am.act.running = false := by
        cases hs : s.am.act.running with
        | false => rfl
        | true => rw [h.timed hs] at ht; cases ht
      simpa [Meter.advance_usage_stopped hs, Timebase.advance] using h.usageLe
  case inHand =>
    intro hr ht
    obtain ⟨lb, hl, hn, hu, hd⟩ := boundary ht (h.inHand hr ht)
    have hone := Meter.advance_usage_le act s.am
    rw [State.now] at hu hd
    have hnow : (s.tb.localTime + 1 - lb).toNat = (s.tb.localTime - lb).toNat + 1 := by
      have := h.epochMost
      bv_omega
    refine ⟨lb, by simpa [Timebase.advance] using hl, by simpa [Timebase.advance] using hn, ?_, ?_⟩
    · simp only [State.now, State.onGd_am, State.onAm_am, State.onTb_am, State.onPins_am, State.followLine_frame, State.onGd_tb,
        State.onAm_tb, State.onTb_tb, State.onPins_tb, Timebase.advance, hnow]
      omega
    · simp only [State.now, State.onGd_tb, State.onAm_tb, State.onTb_tb, State.onPins_tb, State.followLine_frame, Timebase.advance, hnow]
      omega
  case ringLength => exact h.ringLength
  case ringLe => exact h.ringLe
  case creditLeast => exact h.creditLeast
  case creditMost => exact h.creditMost
  case epochLeast => exact h.epochLeast
  case epochMost => exact h.epochMost
  case share => exact h.share
  case staged => exact h.staged
  case profileA => exact h.profileA
  case profileB => exact h.profileB
  case timed => exact fun hr => h.timed (Filter.sample_running s.am.act act ▸ hr)
  case stopped => exact fun hj => ⟨(Filter.sample_running s.am.act act).trans (h.stopped hj).1, (h.stopped hj).2⟩
  case ringUnset => exact h.ringUnset

/-- On entry to HALTED the timer and the filter stop, and what was metered stands (R11, R146). -/
theorem enterHalted_metered (h : s.Metered) : s.enterHalted.Metered := by
  let stopped : State := { s with halted := true, tb := s.tb.halt, am := s.am.halt }
  have hs : stopped.Metered :=
    { ringLength := h.ringLength, ringLe := h.ringLe, usageLe := h.usageLe, creditLeast := h.creditLeast, creditMost := h.creditMost
      epochLeast := h.epochLeast, epochMost := h.epochMost, share := h.share, staged := h.staged, profileA := h.profileA
      profileB := h.profileB
      timed := nofun
      stopped := fun _ => ⟨rfl, rfl⟩
      ringUnset := nofun
      inHand := nofun }
  have keeps : stopped.KeepsMeter s.enterHalted :=
    .of_blocks (by simp [stopped]) (by simp [stopped, State.enterHalted]) (by simp [stopped]) (by simp [stopped, State.enterHalted])
      (by simp [stopped, State.enterHalted]) (by simp [stopped])
  exact keeps.metered hs

/-! ## The epoch boundary -/

/-- The used share of a ring within its epochs is at most the whole (R137). -/
theorem usedShare_le {ring : List Nat} {n : Nat} (hl : ring.length = 8) (hr : ∀ u ∈ ring, u ≤ n) : usedShare ring n ≤ 1000 := by
  have hsum : ring.sum ≤ 8 * n := by simpa [hl] using List.sum_le_card_nsmul ring n hr
  unfold usedShare
  exact Nat.div_le_of_le_mul (by omega)

/-- The share of the profile in force lies within 0 … 1000 per mille (R170). -/
theorem profile_share_le (ha : shareInRange (s.ps.profileA.map (·.share))) (hb : shareInRange (s.ps.profileB.map (·.share))) :
    s.profile.share ≤ 1000 := by
  have range : ∀ (o : Option Profile) (blank : Profile), blank.share = 0 → shareInRange (o.map (·.share)) →
      (o.getD blank).share ≤ 1000 := by
    intro o blank hblank h
    cases o with
    | none => simp [hblank]
    | some p => exact h p.share rfl
  unfold State.profile
  cases s.ps.inForce with
  | none => simp
  | some p => cases p <;> exact range _ _ rfl ‹_›

/-- AM takes a share target in range, at once or staged (R138). -/
theorem takeTarget_metered {x : Nat} {epoch : BitVec 32} (hx : x ≤ 1000) (h : s.Metered) :
    (s.onAm fun m => m.takeTarget x epoch).Metered := by
  have target : shareInRange (some x) := fun y hy => by cases hy; exact hx
  by_cases he : s.am.runningEpoch = epoch
  · have hm : (s.onAm fun m => m.takeTarget x epoch) = s.onAm fun m => { m with shareTarget := some x } := by
      simp [State.onAm, Meter.takeTarget, he]
    rw [hm]
    exact { h with share := target }
  · have hm : (s.onAm fun m => m.takeTarget x epoch) = s.onAm fun m => { m with stagedTarget := some x } := by
      simp [State.onAm, Meter.takeTarget, he]
    rw [hm]
    exact { h with staged := target }

/-- A switch of profile hands AM a share target in range (R138, R173). -/
theorem switchProfile_metered (h : s.Metered) : s.switchProfile.Metered := by
  unfold State.switchProfile
  split
  · exact h
  · rename_i p _
    let switched := s.onPs fun ps => { ps with inForce := some p, pending := none }
    have hs : switched.Metered := { h with }
    have handed := takeTarget_metered (epoch := s.tb.epochCount) (profile_share_le hs.profileA hs.profileB) hs
    have offer : ∀ (u : State) n, u.KeepsMeter (u.offerNotice n) := fun _ _ => .of_blocks
    exact (offer _ _).metered handed

/-- The boundary taken is the present instant, at which the next epoch begins with nothing used (R7, R137). -/
theorem closeEpoch_metered {epoch : BitVec 32} (hd : s.boundaryDue = true) (hr : s.pins.rstLow = false) (h : s.Metered) :
    ((s.onTb Timebase.boundary).onAm fun m => m.close s.tb.epochLength epoch).Metered := by
  have ht : s.tb.timerRunning = true := by
    cases ht : s.tb.timerRunning with
    | true => rfl
    | false => simp [State.boundaryDue, ht] at hd
  obtain ⟨lb, -, hn, -, hle⟩ := h.inHand hr ht
  have hdue : s.distance (later lb s.tb.epochLength) ≤ 0 := by
    simpa [State.boundaryDue, ht, hn, State.dueSome, State.due] using hd
  rw [distance_boundary hle h.epochMost] at hdue
  have hnow : s.now = later lb s.tb.epochLength := by
    have := h.epochMost
    rw [later]
    bv_omega
  have hring : ∀ u ∈ s.am.ring.drop 1 ++ [s.am.usage], u ≤ s.tb.epochLength := by
    intro u hu
    rcases List.mem_append.mp hu with hu | hu
    · exact h.ringLe u (List.mem_of_mem_drop hu)
    · rw [List.mem_singleton.mp hu]
      exact h.usageLe
  have hlen : (s.am.ring.drop 1 ++ [s.am.usage]).length = 8 := by simp [h.ringLength]
  have hused := usedShare_le hlen hring
  have hshare : s.am.shareTarget.getD 0 ≤ 1000 := by
    cases hs : s.am.shareTarget with
    | none => simp
    | some x => exact h.share x hs
  exact
    { ringLength := hlen
      ringLe := hring
      usageLe := Nat.zero_le _
      creditLeast := by simp only [State.onAm_am, State.onTb_am, Meter.close]; omega
      creditMost := by simp only [State.onAm_am, State.onTb_am, Meter.close]; omega
      epochLeast := h.epochLeast
      epochMost := h.epochMost
      share := fun x hx => by
        cases hs : s.am.stagedTarget with
        | none => exact h.share x (by simpa [Meter.close, hs] using hx)
        | some y => exact h.staged x (by simpa [Meter.close, hs] using hx)
      staged := nofun
      profileA := h.profileA
      profileB := h.profileB
      timed := h.timed
      stopped := h.stopped
      ringUnset := fun hp => by
        have hj : s.joined = false := by
          rw [State.joined, show s.part = .unset from hp]
        rw [(h.stopped hj).2] at ht
        cases ht
      inHand := fun _ _ => ⟨s.now, by simp [Timebase.boundary, hn, hnow], by simp [Timebase.boundary, hn, hnow], Nat.zero_le _, by
        simp [State.now, Timebase.boundary]⟩ }

theorem takeBoundary_metered (hd : s.boundaryDue = true) (hr : s.pins.rstLow = false) (h : s.Metered) : s.takeBoundary.Metered :=
  by
  have asked : ((s.onTb Timebase.boundary).onAm fun m => m.close s.tb.epochLength (s.tb.epochCount + 1)).KeepsMeter
      (((s.onTb Timebase.boundary).onAm fun m => m.close s.tb.epochLength (s.tb.epochCount + 1)).askBeacon.repeatClaims) := .of_blocks
  exact switchProfile_metered (asked.metered (closeEpoch_metered hd hr h))

/-! ## SETUP -/

theorem clampNat_le {lo hi n : Nat} : clampNat lo hi n ≤ hi := Nat.min_le_left _ _

theorem le_clampNat {lo hi n : Nat} (h : lo ≤ hi) : lo ≤ clampNat lo hi n := Nat.le_min.mpr ⟨h, Nat.le_max_left _ _⟩

/-- The fields of a SETUP that the meter rests on lie in their ranges once clamped (R170, R199). -/
theorem takeSetup_ranges (r : SetupRecord) :
    4096 ≤ (takeSetup r).value.epochLength ∧ (takeSetup r).value.epochLength ≤ 65536 ∧
      (takeSetup r).value.profileA.share ≤ 1000 ∧ (takeSetup r).value.profileB.share ≤ 1000 := by
  have hlo : 4 ≤ clampNat 4 64 r.epochUnits.toNat := le_clampNat (by decide)
  have hhi : clampNat 4 64 r.epochUnits.toNat ≤ 64 := clampNat_le
  refine ⟨?_, ?_, clampNat_le, clampNat_le⟩ <;> simp only [takeSetup, takeClamped] <;> omega

/-- SETUP in UNSET begins the first epoch at the present instant, with an empty ring (R7, R135, R198). -/
theorem acceptSetup_metered {act rq : Bool} (r : SetupRecord) (hp : s.part = .unset) (h : s.Metered) :
    (s.acceptSetup act rq (takeSetup r).value).Metered := by
  obtain ⟨hlo, hhi, ha, hb⟩ := takeSetup_ranges r
  have hj : (s.acceptSetup act rq (takeSetup r).value).part = .joining := by
    simp [State.part, not_halted_of_unset hp]
  constructor
  case ringLength => simpa [Meter.setUp] using h.ringLength
  case ringLe => exact fun u hu => by simp [h.ringUnset hp u (by simpa [Meter.setUp] using hu)]
  case usageLe => simp [Meter.setUp]
  case creditLeast => simpa [Meter.setUp] using h.creditLeast
  case creditMost => simpa [Meter.setUp] using h.creditMost
  case epochLeast => simpa [Timebase.setUp] using hlo
  case epochMost => simpa [Timebase.setUp] using hhi
  case share =>
    intro x hx
    cases hi : (takeSetup r).value.initial <;> simp [Meter.setUp, SetupFields.initialProfile, hi] at hx <;> omega
  case staged => simp [Meter.setUp, shareInRange]
  case profileA => simpa [shareInRange] using ha
  case profileB => simpa [shareInRange] using hb
  case timed => simp [Timebase.setUp]
  case stopped =>
    rw [State.joined, hj]
    nofun
  case ringUnset =>
    rw [hj]
    nofun
  case inHand => exact fun _ _ => ⟨s.now, by simp [Timebase.setUp, State.now], by simp [Timebase.setUp, State.now], by simp [Meter.setUp],
    by simp [State.now, Timebase.setUp]⟩

/-! ## Every command -/

theorem assertReset_metered (fb : Bool) (h : s.Metered) : (s.assertReset fb).Metered := { h with inHand := nofun }

theorem releaseReset_metered (sa : Station) : (s.releaseReset sa).Metered where
  ringLength := rfl
  ringLe := by simp [State.releaseReset, State.afterReset]
  usageLe := by simp [State.releaseReset, State.afterReset]
  creditLeast := by simp [State.releaseReset, State.afterReset]
  creditMost := by simp [State.releaseReset, State.afterReset]
  epochLeast := by simp [State.releaseReset, State.afterReset]
  epochMost := by simp [State.releaseReset, State.afterReset]
  share := nofun
  staged := nofun
  profileA := nofun
  profileB := nofun
  timed := nofun
  stopped := fun _ => ⟨rfl, rfl⟩
  ringUnset := by simp [State.releaseReset, State.afterReset]
  inHand := nofun

/-- Every command keeps the law of the meter. -/
theorem exec_metered {c : Instr} (h : exec c s = .next t) (hm : s.Metered) : t.Metered := by
  cases hc : c.movesTime with
  | false => exact (exec_keepsMeter hc h).metered hm
  | true =>
    have keeps : ∀ {u : State}, u.Metered → u.settle.Metered := fun hu => (State.KeepsMeter.refl.settle).metered hu
    cases c with
    | resetAssert fb => exact occurs_keeps (R := fun _ t => t.Metered) hm (fun _ => assertReset_metered fb hm) h
    | resetRelease sa => exact occurs_keeps (R := fun _ t => t.Metered) hm (fun _ => releaseReset_metered sa) h
    | microsecondAdvance => exact occurs_keeps (R := fun _ t => t.Metered) hm (fun ha => advance_metered ha hm) h
    | monitorWindowClose edges =>
      refine occurs_keeps (R := fun _ t => t.Metered) hm (fun _ => ?_) h
      rcases closeWindow_cases (s := s) edges with k | e
      · exact k.metered hm
      · rw [e]
        exact keeps (enterHalted_metered { hm with })
    | epochBoundary =>
      unfold exec execEpochBoundary at h
      refine occurs_keeps (R := fun _ t => t.Metered) hm (fun hb => ?_) h
      obtain ⟨hw, hd⟩ := (Bool.and_eq_true _ _).mp hb
      exact keeps (takeBoundary_metered hd (by simpa using (Bool.and_eq_true _ _).mp hw |>.1) hm)
    | setup whole act rq r =>
      refine occurs_keeps (R := fun _ t => t.Metered) hm (fun _ => ?_) h
      rcases takeSetup_cases (s := s) whole act rq r with k | ⟨hp, e⟩
      · exact k.metered hm
      · rw [e]
        have rise : s.KeepsMeter ((s.riseCsn whole).accept kindSetup (takeSetup r).clamped) := .of_blocks
        refine keeps (acceptSetup_metered r ?_ (rise.metered hm))
        rw [← hp]
        exact part_congr (by simp) (by simp)
    | _ => cases hc

/-- A step is a command of the queue, or the state stands; so that what every command keeps, every step keeps. The queue of commands is no
part of `P`. -/
theorem step_keeps {P : State → Prop} (queue : ∀ (s : State) (rest : List Instr), P s → P { s with pending := rest })
    (exec : ∀ (c : Instr) (s t : State), exec c s = .next t → P s → P t) (h : step s = .next t) (hp : P s) : P t := by
  unfold step at h
  split at h
  · cases h
    exact hp
  · exact exec _ _ _ h (queue s _ hp)

end Sys2Proof.Machine

namespace Sys2Proof.Machine

open Sys2Proof

/-- Settles O59: what moves no time keeps the law, and the advance, the boundary, SETUP, HALTED and the reset pin each do. -/
theorem meterLawKept : Obligations.MeterLawKept := by
  intro s t h hm
  rw [meterLaw_iff] at hm ⊢
  exact step_keeps (fun _ _ hp => { hp with }) (fun _ _ _ => exec_metered) h hm

/-- Settles O3: the case analysis over the commands is `localTime_cases`. -/
theorem localTimeMoves : Obligations.LocalTimeMoves := fun _ _ _ => localTime_cases

end Sys2Proof.Machine
end

section
/-! SUPPORT. The line side of LC: what it times, hears and drives. The asks, the commits and everything else that queues or removes frames leave
it as it stands. -/

namespace Sys2Proof.Machine

variable (s : State)

/-- The line side of LC: its driver, its receiver, the own frame, and what it times. The latch, the queue, the counts and the acknowledge state
are blanked. -/
def LineController.lineSide (l : LineController) : LineController :=
  { l with latch := none, queue := [], nextAsk := 0, badCount := 0, goodRun := 0, ack := .noClear }

/-- The fields of the line side. -/
theorem LineController.fields_of_lineSide {l l' : LineController} (h : l'.lineSide = l.lineSide) :
    l'.driver = l.driver ∧ l'.receiver = l.receiver ∧ l'.contending = l.contending ∧ l'.inTransmission = l.inTransmission ∧
      l'.stretch = l.stretch ∧ l'.clearDetected = l.clearDetected ∧ l'.clearDrive = l.clearDrive := by
  have field : ∀ {α : Type} (f : LineController → α), (∀ x : LineController, f x.lineSide = f x) → f l' = f l :=
    fun f hf => (hf l').symm.trans ((congrArg f h).trans (hf l))
  exact ⟨field _ fun _ => rfl, field _ fun _ => rfl, field _ fun _ => rfl, field _ fun _ => rfl, field _ fun _ => rfl,
    field _ fun _ => rfl, field _ fun _ => rfl⟩

@[simp] theorem State.dequeue_lineSide (r : FrameRef) : (s.dequeue r).lc.lineSide = s.lc.lineSide := rfl

@[simp] theorem State.makeRoom_lineSide : s.makeRoom.lc.lineSide = s.lc.lineSide := by
  unfold State.makeRoom
  repeat' split
  all_goals rfl

@[simp] theorem State.enqueue_lineSide (r : FrameRef) : (s.enqueue r).lc.lineSide = s.lc.lineSide := s.makeRoom_lineSide

@[simp] theorem State.putBack_lineSide (f : QueuedFrame) : (s.putBack f).lc.lineSide = s.lc.lineSide := s.makeRoom_lineSide

@[simp] theorem State.askClaim_lineSide (t : Tag) : (s.askClaim t).lc.lineSide = s.lc.lineSide := by
  unfold State.askClaim
  repeat' split
  all_goals simp

@[simp] theorem State.askWithdraw_lineSide (t : Tag) : (s.askWithdraw t).lc.lineSide = s.lc.lineSide := by simp [State.askWithdraw]

@[simp] theorem State.askBeacon_lineSide : s.askBeacon.lc.lineSide = s.lc.lineSide := by simp [State.askBeacon]

@[simp] theorem State.askClaims_lineSide (ts : List Tag) : (s.askClaims ts).lc.lineSide = s.lc.lineSide := by
  induction ts generalizing s with
  | nil => rfl
  | cons t ts ih => exact (ih (s.askClaim t)).trans (s.askClaim_lineSide t)

@[simp] theorem State.catchUp_lineSide : s.catchUp.lc.lineSide = s.lc.lineSide := by simp [State.catchUp]

@[simp] theorem State.repeatClaims_lineSide : s.repeatClaims.lc.lineSide = s.lc.lineSide := by simp [State.repeatClaims]

@[simp] theorem State.releaseHeldClaims_lineSide : s.releaseHeldClaims.lc.lineSide = s.lc.lineSide := by simp [State.releaseHeldClaims]

@[simp] theorem State.returnFrame_lineSide (f : QueuedFrame) : (s.returnFrame f).lc.lineSide = s.lc.lineSide := by
  unfold State.returnFrame
  repeat' split
  all_goals simp

@[simp] theorem State.enterJoining_lineSide : s.enterJoining.lc.lineSide = s.lc.lineSide := by simp [State.enterJoining]

@[simp] theorem State.takeBoundary_lineSide : s.takeBoundary.lc.lineSide = s.lc.lineSide := by simp [State.takeBoundary]

@[simp] theorem State.countGood_lineSide : s.countGood.lc.lineSide = s.lc.lineSide := by
  unfold State.countGood
  split
  · rfl
  · simp [LineController.lineSide]

@[simp] theorem State.countBad_lineSide : s.countBad.lc.lineSide = s.lc.lineSide := by
  simp only [State.countBad]
  split <;> simp [LineController.lineSide]

/-! ## Occurrences -/

@[simp] theorem State.occurrenceEnds_lineSide (t : Tag) : (s.occurrenceEnds t).lc.lineSide = s.lc.lineSide := by
  unfold State.occurrenceEnds
  repeat' split
  all_goals simp

@[simp] theorem State.commit_lineSide (e : Entry) : (s.commit e).lc.lineSide = s.lc.lineSide := by
  unfold State.commit
  cases s.decide e <;> simp [State.applyDecision]

@[simp] theorem State.commitLinks_lineSide (t : Tag) (n : Nat) : (State.commitLinks t n s).lc.lineSide = s.lc.lineSide := by
  induction n generalizing s with
  | zero => rfl
  | succ n ih =>
    unfold State.commitLinks
    repeat' split
    all_goals simp [ih]

@[simp] theorem State.commitWhileDue_lineSide (t : Tag) : (s.commitWhileDue t).lc.lineSide = s.lc.lineSide := by
  unfold State.commitWhileDue
  split <;> simp

@[simp] theorem State.endOccurrence_lineSide (t : Tag) : (s.endOccurrence t).lc.lineSide = s.lc.lineSide := by simp [State.endOccurrence]

@[simp] theorem State.lateTestOne_lineSide (c : ClaimEntry) (t : Tag) : (State.lateTestOne c s t).lc.lineSide = s.lc.lineSide := by
  have committed : ∀ e p a, (s.lateCommitted e p a).lc.lineSide = s.lc.lineSide := fun e p a => by
    simp only [State.lateCommitted]
    split <;> simp
  have active : ∀ e p a, (s.lateActive e p a).lc.lineSide = s.lc.lineSide := fun e p a => by
    simp only [State.lateActive]
    repeat' split
    all_goals simp
  unfold State.lateTestOne
  repeat' split
  all_goals simp [committed, active]

@[simp] theorem State.lateTest_lineSide (c : ClaimEntry) : (s.lateTest c).lc.lineSide = s.lc.lineSide := by
  unfold State.lateTest
  generalize s.bookOrder.map Entry.tag = ts
  induction ts generalizing s with
  | nil => rfl
  | cons t ts ih => exact (ih _).trans (s.lateTestOne_lineSide c t)

@[simp] theorem State.enterBook_lineSide (q : Request) (c : List Nat) : (s.enterBook q c).lc.lineSide = s.lc.lineSide := by
  simp [State.enterBook]

@[simp] theorem State.cancelEntry_lineSide (e : Entry) : (s.cancelEntry e).lc.lineSide = s.lc.lineSide := by
  unfold State.cancelEntry
  split <;> simp

/-! ## Peers -/

@[simp] theorem State.takeClaimFrame_lineSide (st : Station) (b : ClaimBody) (l : Time) :
    (s.takeClaimFrame st b l).lc.lineSide = s.lc.lineSide := by
  unfold State.takeClaimFrame
  split <;> simp

@[simp] theorem State.hear_lineSide (st : Station) (l : Time) (t : PeerRecord → Nat) : (s.hear st l t).lc.lineSide = s.lc.lineSide := by
  unfold State.hear
  repeat' split
  all_goals simp

@[simp] theorem State.takeBeacon_lineSide (st : Station) (b : BeaconBody) (l : Time) :
    (s.takeBeacon st b l).lc.lineSide = s.lc.lineSide := by
  have restart : ∀ u : State, (u.restartCheck st b).lc.lineSide = u.lc.lineSide := fun u => by
    unfold State.restartCheck
    repeat' split
    all_goals simp
  simp [State.takeBeacon, restart]

@[simp] theorem State.handReport_lineSide (l : Time) (b : FrameBody) : (s.handReport l b).lc.lineSide = s.lc.lineSide := by
  have beacon : ∀ fresh, (s.reportBeacon l fresh).lc.lineSide = s.lc.lineSide := fun fresh => by
    unfold State.reportBeacon
    split <;> simp
  cases b <;> simp [State.handReport, beacon]

@[simp] theorem State.acceptSetup_lineSide (act rq : Bool) (f : SetupFields) : (s.acceptSetup act rq f).lc.lineSide = s.lc.lineSide := by
  simp [State.acceptSetup]

end Sys2Proof.Machine
end

section
/-! SUPPORT. LC's law of the line, kept by every command (R150, R162, R163, R164). -/

namespace Sys2Proof.Machine

open Sys2Proof

variable {s t : State} {l l' : LineController}

/-- The law of the line with its parts by name, over LC alone. -/
structure LineController.Lawful (l : LineController) : Prop where
  counts : ∀ n, l.receiver = .waitIdle n → n < 11
  idle : l.receiver = .idle → l.stretch = none ∧ l.clearDrive = none
  clear : l.clearDetected = true ∨ l.clearDrive.isSome = true →
    l.stretch.isSome = true ∧ l.contending = none ∧ l.inTransmission = none

theorem lineLaw_iff : s.LineLaw ↔ s.lc.Lawful :=
  ⟨fun ⟨h1, h2, h3⟩ => ⟨h1, h2, h3⟩, fun ⟨h1, h2, h3⟩ => ⟨h1, h2, h3⟩⟩

namespace LineController.Lawful

/-- The law speaks of the line side alone. -/
theorem of_lineSide (h : l'.lineSide = l.lineSide) (hl : l.Lawful) : l'.Lawful := by
  have hs : l.lineSide.Lawful := ⟨hl.counts, hl.idle, hl.clear⟩
  rw [← h] at hs
  exact ⟨hs.counts, hs.idle, hs.clear⟩

/-- A line on which no stretch is timed has no clear, detected or driven. -/
theorem no_clear_of_recessive (hl : l.Lawful) (h : l.stretch = none) : l.clearDetected = false ∧ l.clearDrive = none := by
  constructor
  · cases hc : l.clearDetected with
    | false => rfl
    | true => simpa [h] using (hl.clear (.inl hc)).1
  · cases hc : l.clearDrive with
    | none => rfl
    | some e => simpa [h] using (hl.clear (.inr (by simp [hc]))).1

/-- While the own station contends or sends, no clear is detected or driven. -/
theorem no_clear_of_own (hl : l.Lawful) (h : l.contending.isSome = true ∨ l.inTransmission.isSome = true) :
    l.clearDetected = false ∧ l.clearDrive = none := by
  have absurd : ¬ (l.clearDetected = true ∨ l.clearDrive.isSome = true) := fun hc => by
    obtain ⟨-, h1, h2⟩ := hl.clear hc
    simp [h1, h2] at h
  simpa using absurd

/-- Without a clear, the law asks only for the count of WAIT IDLE and for a recessive line at line idle. -/
theorem of_no_clear (hc : l.clearDetected = false ∧ l.clearDrive = none) (counts : ∀ n, l.receiver = .waitIdle n → n < 11)
    (idle : l.receiver = .idle → l.stretch = none) : l.Lawful :=
  ⟨counts, fun h => ⟨idle h, hc.2⟩, fun h => by simp [hc.1, hc.2] at h⟩

/-- The own frame and the own clear drive may leave the line at any time. -/
theorem release (hl : l.Lawful) (hr : l'.receiver = l.receiver) (hs : l'.stretch = l.stretch) (hd : l'.clearDetected = l.clearDetected)
    (he : l'.clearDrive = none ∨ l'.clearDrive = l.clearDrive) (hc : l'.contending = none ∨ l'.contending = l.contending)
    (hi : l'.inTransmission = none ∨ l'.inTransmission = l.inTransmission) : l'.Lawful where
  counts := by rw [hr]; exact hl.counts
  idle := by
    rw [hr, hs]
    exact fun h => ⟨(hl.idle h).1, he.elim id (·.trans (hl.idle h).2)⟩
  clear := by
    rw [hd, hs]
    intro h
    obtain ⟨h1, h2, h3⟩ := hl.clear (h.imp id fun h => by
      rcases he with e | e
      · simp [e] at h
      · exact e ▸ h)
    exact ⟨h1, hc.elim id (·.trans h2), hi.elim id (·.trans h3)⟩

/-- Each event of the line with no row of its own keeps the law (R150, R162). -/
theorem follow {now : Time} {e : LineEvent} (hl : l.Lawful) (hp : l.plainEvent e = true) : (l.follow now e).Lawful := by
  cases e with
  | fall =>
    have hr : l.receiver ≠ .idle := by simpa [LineController.plainEvent] using hp
    refine ⟨?_, ?_, fun h => ⟨rfl, (hl.clear h).2⟩⟩
    · intro n h
      cases hr' : l.receiver <;> simp [LineController.follow, Receiver.follow, hr'] at h
      omega
    · intro h
      cases hr' : l.receiver <;> simp [LineController.follow, Receiver.follow, hr'] at h
      exact absurd hr' hr
  | rise =>
    have hc : l.clearDetected = false ∧ l.clearDrive = none := by simpa [LineController.plainEvent] using hp
    refine of_no_clear hc (fun n h => ?_) fun _ => rfl
    cases hr : l.receiver <;> simp [LineController.follow, Receiver.follow, hr] at h
    exact h ▸ hl.counts _ hr
  | recessiveBit =>
    have hs : l.stretch = none := by
      simp only [LineController.plainEvent, Bool.and_eq_true, Option.isNone_iff_eq_none] at hp
      exact hp.1
    refine of_no_clear (hl.no_clear_of_recessive hs) (fun n h => ?_) fun _ => hs
    cases hr : l.receiver with
    | waitIdle k =>
      simp only [LineController.follow, Receiver.follow, hr] at h
      split at h
      · cases h
        assumption
      · cases h
    | _ => simp [LineController.follow, Receiver.follow, hr] at h

theorem foldl_follow {now : Time} {line : List LineEvent} (hl : l.Lawful) (hp : LineController.plainEvents now l line = true) :
    (line.foldl (LineController.follow now) l).Lawful := by
  induction line generalizing l with
  | nil => exact hl
  | cons e rest ih =>
    obtain ⟨he, hrest⟩ := (Bool.and_eq_true _ _).mp hp
    exact ih (hl.follow he) hrest

end LineController.Lawful

/-! ## The events of the line -/

theorem settle_lawful (h : s.lc.Lawful) : s.settle.lc.Lawful := by
  rcases (settle_follows s).lc with ⟨-, e⟩ | ⟨-, e⟩ <;> rw [e]
  · exact h
  · exact h.release rfl rfl rfl (.inr rfl) (.inl rfl) (.inr rfl)

/-- A CSn rise keeps the law when the handling of its record does. -/
theorem takeRecord_lawful {whole : Nat} {handle : State → State} (handled : ∀ b : State, b.lc.Lawful → (handle b).lc.Lawful)
    (h : s.lc.Lawful) : (s.takeRecord whole handle).lc.Lawful := by
  have rise : (s.riseCsn whole).lc.Lawful := by simpa using h
  rcases takeRecord_cases (s := s) whole handle with e | e <;> rw [e]
  · exact settle_lawful (handled _ rise)
  · exact settle_lawful rise

/-- A reception ends on a recessive line, with 7 recessive bits counted (R150, R159). -/
theorem endReception_lawful (hc : s.lc.clearDetected = false ∧ s.lc.clearDrive = none) (hu : t.lc.lineSide = s.lc.lineSide) :
    t.endReception.settle.lc.Lawful := by
  obtain ⟨-, -, -, -, -, hd, he⟩ := LineController.fields_of_lineSide hu
  refine settle_lawful (.of_no_clear ⟨hd.trans hc.1, he.trans hc.2⟩ (fun n hn => ?_) nofun)
  cases hn
  decide

/-- A frame of another station ends with its reception (R159). -/
theorem takeFrame_lawful {st : Station} {handle : Time → State} (hc : s.lc.clearDetected = false ∧ s.lc.clearDrive = none)
    (handled : ∀ latch, (handle latch).lc.lineSide = s.lc.lineSide) (h : s.lc.Lawful) : (s.takeFrame st handle).lc.Lawful := by
  rcases takeFrame_cases (s := s) st handle with e | e | ⟨latch, e⟩ <;> rw [e]
  · exact h
  · exact endReception_lawful hc (by simp)
  · exact endReception_lawful hc (by simp [handled])

/-- A frame is taken on a line that holds no clear (R162). -/
theorem no_clear_of_receiving (h : s.receiving = true) : s.lc.clearDetected = false ∧ s.lc.clearDrive = none := by
  simp only [State.receiving, Bool.and_eq_true, Bool.not_eq_true', Option.isNone_iff_eq_none] at h
  obtain ⟨⟨⟨-, hd⟩, -⟩, he⟩ := h
  exact ⟨hd, he⟩

/-- Contending changes the own frame and the driver alone. -/
theorem contend_line : s.contend.lc.clearDetected = s.lc.clearDetected ∧ s.contend.lc.clearDrive = s.lc.clearDrive ∧
    s.contend.lc.stretch = s.lc.stretch ∧ s.contend.lc.receiver = s.lc.receiver ∧ s.contend.lc.queue = s.lc.queue := by
  unfold State.contend
  repeat' split
  all_goals simp

theorem takeStartMark_lawful (hs : s.lc.stretch = none) (h : s.lc.Lawful) : s.takeStartMark.lc.Lawful := by
  obtain ⟨hd, he⟩ := h.no_clear_of_recessive hs
  obtain ⟨cd, ce, -, -, -⟩ := contend_line (s := s)
  unfold State.takeStartMark
  split
  · exact .of_no_clear ⟨cd.trans hd, ce.trans he⟩ nofun nofun
  · exact .of_no_clear ⟨hd, he⟩ nofun nofun

theorem reachIdle_lawful (hs : s.lc.stretch = none) (h : s.lc.Lawful) : s.reachIdle.lc.Lawful := by
  have idle : (s.onLc fun l => { l with receiver := .idle }).lc.Lawful :=
    .of_no_clear (h.no_clear_of_recessive hs) nofun fun _ => hs
  unfold State.reachIdle
  split
  · exact takeStartMark_lawful hs idle
  · exact idle

theorem reportStartMark_lawful (h : s.lc.Lawful) : s.reportStartMark.lc.Lawful := by
  rcases reportStartMark_cases (s := s) with e | ⟨c, own, body, hc, e⟩ <;> rw [e]
  · exact h
  · refine .of_lineSide (State.handReport_lineSide _ _ _) (.of_no_clear ?_ h.counts fun hi => (h.idle hi).1)
    exact h.no_clear_of_own (.inl (by simp [hc]))

theorem takeFrameSent_lawful (h : s.lc.Lawful) : s.takeFrameSent.lc.Lawful := by
  rcases takeFrameSent_cases (s := s) with ⟨-, e⟩ | ⟨f, _, hf, e⟩ <;> rw [e]
  · exact h
  · refine .of_no_clear (h.no_clear_of_own (.inr (by simp [hf]))) (fun n hn => ?_) nofun
    cases hn
    decide

/-- An abandoned frame leaves the line, and nothing else of the line side changes (R156). -/
theorem abandonFrame_lineSide : s.abandonFrame = s ∨
    s.abandonFrame.lc.lineSide = LineController.lineSide { s.lc with inTransmission := none, driver := .released, latch := none } := by
  unfold State.abandonFrame
  split
  · exact .inl rfl
  · exact .inr (State.returnFrame_lineSide _ _)

theorem abandonFrame_lawful (h : s.lc.Lawful) : s.abandonFrame.lc.Lawful := by
  rcases abandonFrame_lineSide (s := s) with e | e
  · rw [e]
    exact h
  · obtain ⟨-, hr, hc, hi, hs, hd, he⟩ := LineController.fields_of_lineSide e
    exact h.release hr hs hd (.inr he) (.inr hc) (.inl hi)

/-- Stopping a frame of its own leaves what LC times, and no clear was timed then (R158). -/
theorem takeDriveFault_lawful (hf : s.lc.contending.isSome = true ∨ s.lc.inTransmission.isSome = true) (h : s.lc.Lawful) :
    s.takeDriveFault.lc.Lawful := by
  have stopped : ∀ u : State, u.lc.clearDetected = s.lc.clearDetected → u.lc.clearDrive = s.lc.clearDrive → u.lc.receiver = s.lc.receiver →
      (((u.onLc fun l => { l with stretch := none }).raiseAlarm .lineDriveFault).settle).lc.Lawful := fun u hd he hr => by
    obtain ⟨cd, ce⟩ := h.no_clear_of_own hf
    refine settle_lawful ?_
    rw [show ((u.onLc fun l => { l with stretch := none }).raiseAlarm .lineDriveFault).lc = { u.lc with stretch := none } by simp]
    exact .of_no_clear ⟨hd.trans cd, he.trans ce⟩ (fun n hn => h.counts n (hr ▸ hn)) fun _ => rfl
  unfold State.takeDriveFault
  split
  · exact stopped s.stopContending rfl rfl rfl
  · rcases abandonFrame_lineSide (s := s) with e | e
    · rw [e]
      exact stopped s rfl rfl rfl
    · obtain ⟨-, hr, -, -, -, hd, he⟩ := LineController.fields_of_lineSide e
      exact stopped s.abandonFrame hd he hr

/-- At the detection of a line clear its stretch is being timed, so that the line is not idle (R162, R164). -/
theorem lineClear_lawful (hs : s.lc.stretch.isSome = true) (h : s.lc.Lawful) : s.lineClear.lc.Lawful := by
  have clear : (LineController.atClear s.lc).Lawful := by
    have hi : s.lc.receiver ≠ .idle := fun hi => by simp [(h.idle hi).1] at hs
    refine ⟨fun n hn => ?_, fun hn => ?_, fun _ => ⟨hs, rfl, rfl⟩⟩
    · cases hr : s.lc.receiver <;> simp [LineController.atClear, Receiver.follow, hr] at hn
      omega
    · cases hr : s.lc.receiver <;> simp [LineController.atClear, Receiver.follow, hr] at hn
      exact absurd hr hi
  refine clear.of_lineSide ?_
  have ack : ∀ (l : LineController) a, LineController.lineSide { l with ack := a } = l.lineSide := fun _ _ => rfl
  unfold State.lineClear
  cases s.joined <;> simp [ack]

theorem endStretch_lawful (hd : s.lc.clearDrive = none) : s.endStretch.lc.Lawful := by
  unfold State.endStretch
  split
  · refine .of_no_clear ⟨rfl, hd⟩ (fun n hn => ?_) fun _ => rfl
    cases hn
    decide
  · rename_i hc
    refine .of_no_clear ⟨by simpa using hc, hd⟩ (fun n hn => ?_) fun _ => rfl
    cases hr : s.lc.receiver <;> simp [Receiver.follow, hr] at hn
    omega

/-- An own clear drive times its stretch from its start, or goes on with the one that is timed (R163). -/
theorem startClear_lawful (now : Time) : (l.startClear now).Lawful := by
  refine ⟨fun n hn => ?_, fun hn => ?_, fun _ => ⟨rfl, rfl, rfl⟩⟩
  · cases hr : l.receiver <;> simp [LineController.startClear, Receiver.follow, hr] at hn
    omega
  · cases hr : l.receiver <;> simp [LineController.startClear, Receiver.follow, hr] at hn

/-- A bad frame ends its reception, and a stretch that it leaves goes on (R159). -/
theorem badFrame_lawful {line : List LineEvent} (hc : s.lc.clearDetected = false ∧ s.lc.clearDrive = none) :
    (s.followLine line).countBad.dropReception.settle.lc.Lawful := by
  obtain ⟨-, -, -, -, -, hd, he⟩ := LineController.fields_of_lineSide (s.followLine line).countBad_lineSide
  have hf : (s.followLine line).lc.clearDetected = s.lc.clearDetected ∧ (s.followLine line).lc.clearDrive = s.lc.clearDrive := by
    rw [show (s.followLine line).lc = _ from LineController.foldl_follow s.now s.lc line]
    exact ⟨rfl, rfl⟩
  refine settle_lawful (.of_no_clear ⟨hd.trans (hf.1.trans hc.1), he.trans (hf.2.trans hc.2)⟩ (fun n hn => ?_) nofun)
  cases hn
  decide

/-- A line clear is due for a stretch that is being timed (R162). -/
theorem stretch_of_clearDue (h : s.clearDue = true) : s.lc.stretch.isSome = true := by
  cases hs : s.lc.stretch with
  | some start => rfl
  | none => simp [State.clearDue, State.stretchLong, State.dueSome, hs] at h

theorem advance_lawful {rc : Nat} {act rq : Bool} {line : List LineEvent} (hm : s.mayAdvance rc line = true) (h : s.lc.Lawful) :
    (s.advance rc act rq line).lc.Lawful := by
  have hp : LineController.plainEvents s.now s.lc line = true := by
    simp only [State.mayAdvance, State.mayFollow, Bool.and_eq_true] at hm
    exact hm.1.1.2.2
  exact settle_lawful (h.foldl_follow hp)

theorem enterHalted_lawful (h : s.lc.Lawful) : s.enterHalted.lc.Lawful := by
  have e : s.enterHalted.lc = s.lc.halt := by simp [State.enterHalted]
  rw [e]
  exact .of_no_clear ⟨rfl, rfl⟩ h.counts fun _ => rfl

/-- The close of a window leaves LC, but for the entry to HALTED (R10, R11). -/
theorem judgeWindow_lc (v : Verdict) : s.judgeWindow v = s.enterHalted ∨ (s.judgeWindow v).lc = s.lc := by
  unfold State.judgeWindow
  split
  · exact .inl rfl
  · split
    · exact .inr rfl
    · exact .inr (by simp [State.leaveSuspect])
  · exact .inr (by simp [State.enterSuspect])
  all_goals exact .inr rfl


/-! ## Every command -/

/-- Every command keeps the law of the line. -/
theorem exec_lawful {c : Instr} (h : exec c s = .next t) (hl : s.lc.Lawful) : t.lc.Lawful := by
  have comes : ∀ {enabled effect}, occurs enabled effect s = .next t → (enabled = true → (effect s).lc.Lawful) → t.lc.Lawful :=
    fun h comes => occurs_keeps (R := fun _ t => t.lc.Lawful) hl comes h
  have side : ∀ {u : State}, u.lc.lineSide = s.lc.lineSide → u.lc.Lawful := fun hu => .of_lineSide hu hl
  have stands : ∀ {u : State}, u.lc.lineSide = s.lc.lineSide → u.settle.lc.Lawful := fun hu => settle_lawful (.of_lineSide hu hl)
  cases c with
  | resetAssert => exact comes h fun _ => hl.release rfl rfl rfl (.inl rfl) (.inl rfl) (.inl rfl)
  | resetRelease =>
    refine comes h fun _ => .of_no_clear ⟨rfl, rfl⟩ (fun n hn => ?_) nofun
    cases hn
    decide
  | microsecondAdvance => exact comes h fun hm => advance_lawful hm hl
  | monitorWindowClose edges =>
    refine comes h fun _ => settle_lawful ?_
    rcases judgeWindow_lc (s := s.onTb (Timebase.closeWindow edges)) (verdictOf (s.tb.windowCount + edges)) with e | e <;> rw [e]
    · exact enterHalted_lawful hl
    · exact hl
  | epochBoundary =>
    unfold exec execEpochBoundary at h
    exact comes h fun _ => stands (by simp)
  | commitPoint =>
    refine comes h fun _ => ?_
    rcases takeCommitPoint_cases (s := s) with e | ⟨_, -, e⟩ <;> rw [e]
    · exact hl
    · exact stands (by simp)
  | placedStart tag =>
    refine comes h fun _ => ?_
    rcases takePlacedStart_cases (s := s) tag with e | ⟨_, -, e⟩ <;> rw [e]
    · exact hl
    · exact stands (by simp)
  | placedEnd tag =>
    refine comes h fun _ => ?_
    rcases takePlacedEnd_cases (s := s) tag with e | ⟨_, -, e⟩ <;> rw [e]
    · exact hl
    · exact stands (by simp)
  | actLevelTaken | countDeadline | rqRise | rqFall | fastEnd => exact comes h fun _ => stands (by simp)
  | quietDeadline st =>
    refine comes h fun _ => ?_
    rcases takeQuietDeadline_cases (s := s) st with e | e <;> rw [e]
    · exact hl
    · exact stands (by simp)
  | lostDeadline st =>
    refine comes h fun _ => ?_
    rcases takeLostDeadline_cases (s := s) st with e | e <;> rw [e]
    · exact hl
    · exact stands (by simp)
  | leaseDeadline st tag =>
    refine comes h fun _ => ?_
    rcases takeLeaseDeadline_cases (s := s) st tag with e | e <;> rw [e] <;> exact hl
  | expiryPoint st tag =>
    refine comes h fun _ => ?_
    rcases takeExpiryPoint_cases (s := s) st tag with e | e <;> rw [e] <;> exact hl
  | joiningEnd => exact comes h fun _ => stands rfl
  | acknowledgeDeadline => exact comes h fun _ => stands (by simp [LineController.lineSide])
  | lineIdle line =>
    refine comes h fun hf => reachIdle_lawful ?_ hl
    simp only [State.lineFree, Bool.and_eq_true, Option.isNone_iff_eq_none] at hf
    exact hf.2.1.1.1
  | startMark =>
    refine comes h fun hf => takeStartMark_lawful ?_ hl
    simp only [Bool.and_eq_true, Option.isNone_iff_eq_none] at hf
    exact hf.1.1.2
  | arbitrationLost => exact comes h fun _ => hl.release rfl rfl rfl (.inr rfl) (.inl rfl) (.inr rfl)
  | ownStartMarkReported => exact comes h fun _ => reportStartMark_lawful hl
  | frameSent => exact comes h fun _ => takeFrameSent_lawful hl
  | readbackMismatch => exact comes h fun _ => abandonFrame_lawful hl
  | driveFault =>
    refine comes h fun hf => takeDriveFault_lawful ?_ hl
    simpa using (Bool.and_eq_true _ _).mp hf |>.2
  | beaconReceived =>
    unfold exec execBeaconReceived at h
    exact comes h fun hr => takeFrame_lawful (no_clear_of_receiving hr) (fun _ => by simp) hl
  | claimReceived | withdrawReceived =>
    exact comes h fun hr => takeFrame_lawful (no_clear_of_receiving hr) (fun _ => by simp) hl
  | ownNumberFrame => exact comes h fun hr => endReception_lawful (no_clear_of_receiving hr) (by simp)
  | badFrame line =>
    unfold exec execBadFrame at h
    refine comes h fun hr => badFrame_lawful (no_clear_of_receiving ?_)
    simp only [Bool.and_eq_true] at hr
    exact hr.1.1
  | lineClearDetected =>
    unfold exec execLineClearDetected at h
    refine comes h fun hd => settle_lawful (lineClear_lawful (stretch_of_clearDue ?_) hl)
    exact (Bool.and_eq_true _ _).mp hd |>.2
  | lineStuckDetected => exact comes h fun _ => stands (by simp)
  | dominantStretchEnd =>
    refine comes h fun hd => endStretch_lawful ?_
    simp only [Bool.and_eq_true, Option.isNone_iff_eq_none] at hd
    exact hd.1.2
  | clearDriveEnd => exact comes h fun _ => hl.release rfl rfl rfl (.inl rfl) (.inr rfl) (.inr rfl)
  | csnFall => exact comes h fun _ => side (by simp)
  | transactionEnd whole r =>
    refine comes h fun _ => takeRecord_lawful (fun b hb => ?_) hl
    rcases answerPort_cases (s := b) r with e | ⟨_, _, e⟩ <;> rw [e]
    · exact hb
    · exact .of_lineSide (by simp) hb
  | setup whole act rq r =>
    refine comes h fun _ => takeRecord_lawful (fun b hb => ?_) hl
    rcases handleSetup_cases (s := b) act rq r with ⟨-, _, e⟩ | ⟨-, e⟩ <;> rw [e] <;> exact .of_lineSide (by simp) hb
  | submit _ r =>
    refine comes h fun _ => takeRecord_lawful (fun b hb => ?_) hl
    rcases handleSubmit_cases (s := b) r with ⟨_, e⟩ | ⟨-, e⟩ <;> rw [e] <;> exact .of_lineSide (by simp) hb
  | cancel _ tag =>
    refine comes h fun _ => takeRecord_lawful (fun b hb => ?_) hl
    rcases handleCancel_cases (s := b) tag with ⟨_, e⟩ | ⟨-, _, -, -, e⟩ <;> rw [e] <;> exact .of_lineSide (by simp) hb
  | profileSelect _ code =>
    refine comes h fun _ => takeRecord_lawful (fun b hb => ?_) hl
    rcases handleProfileSelect_cases (s := b) code with ⟨_, e⟩ | ⟨-, e⟩ <;> rw [e] <;> exact .of_lineSide (by simp) hb
  | fastSpan _ r =>
    refine comes h fun _ => takeRecord_lawful (fun b hb => ?_) hl
    rcases handleFastSpan_cases (s := b) r with ⟨_, e⟩ | ⟨-, e⟩ <;> rw [e] <;> exact .of_lineSide (by simp) hb
  | clearLine _ =>
    refine comes h fun _ => takeRecord_lawful (fun b hb => ?_) hl
    rcases handleClearLine_cases (s := b) with ⟨_, e⟩ | ⟨-, e⟩ <;> rw [e]
    · exact .of_lineSide (by simp) hb
    · exact startClear_lawful _
  | clearAck _ =>
    refine comes h fun _ => takeRecord_lawful (fun b hb => ?_) hl
    rcases handleClearAck_cases (s := b) with e | e | e <;> rw [e] <;> exact .of_lineSide (by simp [LineController.lineSide]) hb
  | alarmClear _ flags =>
    refine comes h fun _ => takeRecord_lawful (fun b hb => ?_) hl
    rcases handleAlarmClear_cases (s := b) flags with e | e <;> rw [e] <;> exact .of_lineSide (by simp) hb
  | meterRead _ =>
    refine comes h fun _ => takeRecord_lawful (fun b hb => ?_) hl
    rcases handleMeterRead_cases (s := b) with ⟨_, e⟩ | ⟨-, e⟩ <;> rw [e] <;> exact .of_lineSide (by simp) hb
  | statusRead _ =>
    refine comes h fun _ => takeRecord_lawful (fun b hb => ?_) hl
    exact .of_lineSide (by simp [State.handleStatusRead]) hb
  | timeRead _ =>
    refine comes h fun _ => takeRecord_lawful (fun b hb => ?_) hl
    rcases handleTimeRead_cases (s := b) with e | e <;> rw [e] <;> exact .of_lineSide (by simp) hb
  | fbChangeDuringReset => exact comes h fun _ => side rfl

end Sys2Proof.Machine
end

section
/-! O58: in UNSET and HALTED nothing is held and nothing is driven, and the law of the line is kept. -/

namespace Sys2Proof.Machine

open Sys2Proof

variable {s t : State}

/-- The part is in UNSET or HALTED, holds nothing and drives nothing (R7, R38, R167, R168). -/
structure State.AtRest (s : State) : Prop where
  joined : s.joined = false
  book : s.book = []
  queue : s.lc.queue = []
  contending : s.lc.contending = none
  inTransmission : s.lc.inTransmission = none
  clearDrive : s.lc.clearDrive = none
  driver : s.lc.driver = .released
  timerRunning : s.tb.timerRunning = false

theorem quietLaw_iff : s.QuietLaw ↔ (s.joined = false → s.AtRest) :=
  ⟨fun h hj => let ⟨h1, h2, h3, h4, h5, h6, h7⟩ := h hj; ⟨hj, h1, h2, h3, h4, h5, h6, h7⟩,
    fun h hj => let ⟨_, h1, h2, h3, h4, h5, h6, h7⟩ := h hj; ⟨h1, h2, h3, h4, h5, h6, h7⟩⟩

namespace State.AtRest

/-- A change of other blocks, and of what LC times and hears, leaves the part at rest. -/
theorem of_blocks (h : s.AtRest) (hh : t.halted = s.halted := by simp) (hpe : t.pe = s.pe := by simp) (hb : t.book = s.book := by simp)
    (hq : t.lc.queue = s.lc.queue := by simp) (hc : t.lc.contending = s.lc.contending := by simp)
    (hi : t.lc.inTransmission = s.lc.inTransmission := by simp) (he : t.lc.clearDrive = s.lc.clearDrive := by simp)
    (hd : t.lc.driver = s.lc.driver := by simp) (ht : t.tb.timerRunning = s.tb.timerRunning := by simp) : t.AtRest :=
  ⟨(joined_congr hh hpe).trans h.joined, hb.trans h.book, hq.trans h.queue, hc.trans h.contending, hi.trans h.inTransmission,
    he.trans h.clearDrive, hd.trans h.driver, ht.trans h.timerRunning⟩

/-- What follows an event finds no frame to withdraw. -/
theorem settle (h : s.AtRest) : s.settle.AtRest := by
  rcases (settle_follows s).lc with ⟨-, e⟩ | ⟨-, e⟩
  · exact h.of_blocks (hq := by rw [e]) (hc := by rw [e]) (hi := by rw [e]) (he := by rw [e]) (hd := by rw [e])
  · exact h.of_blocks (hq := by rw [e]) (hc := by rw [e]; exact h.contending.symm) (hi := by rw [e]) (he := by rw [e])
      (hd := by rw [e]; exact h.driver.symm)

/-- The book holds no entry to find. -/
theorem findEntry (h : s.AtRest) (tag : Tag) : s.findEntry tag = none := by simp [State.findEntry, h.book]

theorem bookOrder (h : s.AtRest) : s.bookOrder = [] := by simp [State.bookOrder, h.book]

theorem nextCommit (h : s.AtRest) : s.nextCommit = none := by simp [State.nextCommit, h.bookOrder]

/-- The transmit queue holds no frame to contend with. -/
theorem headFrame (h : s.AtRest) : s.headFrame = none := by simp [State.headFrame, State.firstOf, h.queue]

theorem catchUp (h : s.AtRest) : s.catchUp = s := by simp [State.catchUp, State.askClaims, h.bookOrder]

theorem lateTest (h : s.AtRest) (c : ClaimEntry) : s.lateTest c = s := by simp [State.lateTest, h.bookOrder]

/-- Out of HALTED, a part at rest is in UNSET. -/
theorem joining (h : s.AtRest) (hw : s.working = true) : s.pe.joining = .notJoined := by
  have hj := h.joined
  rw [State.joined, State.part, not_halted_of_working hw] at hj
  cases hp : s.pe.joining <;> simp [hp] at hj
  rfl

end State.AtRest

/-! ## The events that find the part at rest -/

theorem takeRecord_atRest {whole : Nat} {handle : State → State} (handled : ∀ b : State, b.AtRest → (handle b).AtRest) (h : s.AtRest) :
    (s.takeRecord whole handle).AtRest := by
  have rise : (s.riseCsn whole).AtRest := h.of_blocks
  rcases takeRecord_cases (s := s) whole handle with e | e <;> rw [e]
  · exact (handled _ rise).settle
  · exact rise.settle

theorem countGood_atRest (h : s.AtRest) : s.countGood.AtRest := by
  unfold State.countGood
  split <;> exact h.of_blocks

theorem endReception_atRest (h : s.AtRest) : s.endReception.AtRest := by
  unfold State.endReception
  exact h.of_blocks

theorem takeFrame_atRest {st : Station} {handle : Time → State} (handled : ∀ latch, (handle latch).AtRest) (h : s.AtRest) :
    (s.takeFrame st handle).AtRest := by
  have ends : ∀ u : State, u.AtRest → u.countGood.endReception.settle.AtRest := fun u hu =>
    (endReception_atRest (countGood_atRest hu)).settle
  rcases takeFrame_cases (s := s) st handle with e | e | ⟨latch, e⟩ <;> rw [e]
  · exact h
  · exact ends s.countClash h.of_blocks
  · exact ends _ (handled latch)

theorem hear_atRest (st : Station) (latch : Time) (timeout : PeerRecord → Nat) (h : s.AtRest) : (s.hear st latch timeout).AtRest := by
  unfold State.hear
  split
  · exact h
  · rename_i r _
    have heard : (s.updatePeer st fun r => r.heard latch (timeout r)).AtRest := h.of_blocks
    dsimp only
    split
    · exact heard.catchUp.symm ▸ heard
    · exact heard.catchUp.symm ▸ heard
    · exact heard.of_blocks
    · exact heard

theorem takeBeacon_atRest (st : Station) (b : BeaconBody) (latch : Time) (h : s.AtRest) : (s.takeBeacon st b latch).AtRest := by
  have restart : ∀ u : State, u.AtRest → (u.restartCheck st b).AtRest := fun u hu => by
    unfold State.restartCheck
    split
    · exact hu
    · split
      · have dropped : ((u.updatePeer st PeerRecord.restarted).dropClaims st).AtRest := hu.of_blocks
        exact dropped.catchUp.symm ▸ dropped
      · exact hu
  unfold State.takeBeacon
  exact (restart _ (hear_atRest st latch (fun _ => beaconEpoch b) h)).of_blocks

theorem takeClaimFrame_atRest (st : Station) (b : ClaimBody) (latch : Time) (h : s.AtRest) : (s.takeClaimFrame st b latch).AtRest := by
  unfold State.takeClaimFrame
  split
  · exact h
  · rename_i c _
    have put : (s.putClaim (s.withDeadlines c)).AtRest := h.of_blocks
    dsimp only
    rw [put.lateTest]
    exact put.of_blocks

/-- A start mark of another station, at which no own frame joins (R147, R151). -/
theorem takeStartMark_atRest (h : s.AtRest) : s.takeStartMark.AtRest := by
  have contend : s.contend = s := by simp [State.contend, h.headFrame]
  unfold State.takeStartMark
  rw [contend, ite_self]
  exact h.of_blocks (hq := rfl) (hc := rfl) (hi := rfl) (he := rfl) (hd := rfl)

theorem reachIdle_atRest (h : s.AtRest) : s.reachIdle.AtRest := by
  unfold State.reachIdle
  rw [h.joined]
  exact h.of_blocks

theorem lineClear_atRest (h : s.AtRest) : s.lineClear.AtRest := by
  have e : s.lineClear = (((s.onCt fun _ => []).onPr fun p => { p with records := p.records.map PeerRecord.cleared }).onLc
      LineController.atClear).offerNotice (.lineCleared (if s.lc.clearDrive.isSome then .self else .line) s.now) := by
    simp [State.lineClear, h.joined]
  rw [e]
  exact h.of_blocks (hq := by simp [LineController.atClear, h.queue]) (hc := by simp [LineController.atClear, h.contending])
    (hi := by simp [LineController.atClear, h.inTransmission]) (he := by simp [LineController.atClear])
    (hd := by simp [LineController.atClear, h.clearDrive, h.driver])

theorem endStretch_atRest (h : s.AtRest) : s.endStretch.AtRest := by
  unfold State.endStretch
  split <;> exact h.of_blocks

/-- Entry to HALTED, from any state, brings the part to rest (R11, R37, R168). -/
theorem enterHalted_atRest : s.enterHalted.AtRest := by
  have hh : s.enterHalted.halted = true := by simp [State.enterHalted]
  have hlc : s.enterHalted.lc = s.lc.halt := by simp [State.enterHalted]
  refine ⟨by simp [State.joined, State.part, hh], ?_, ?_, ?_, ?_, ?_, ?_, ?_⟩
  · simp [State.enterHalted, State.bookHalted]
  · rw [hlc]; rfl
  · rw [hlc]; rfl
  · rw [hlc]; rfl
  · rw [hlc]; rfl
  · rw [hlc]; rfl
  · simp [State.enterHalted, Timebase.halt]

/-- So does the release of the reset pin (R13, R38). -/
theorem releaseReset_atRest (sa : Station) : (s.releaseReset sa).AtRest := ⟨rfl, rfl, rfl, rfl, rfl, rfl, rfl, rfl⟩

/-- The close of a window leaves the part at rest. -/
theorem judgeWindow_atRest (v : Verdict) (h : s.AtRest) : (s.judgeWindow v).AtRest := by
  have suspect : s.enterSuspect.AtRest := by
    unfold State.enterSuspect
    exact h.of_blocks
  have leave : s.leaveSuspect.AtRest := by
    unfold State.leaveSuspect
    exact h.of_blocks
  unfold State.judgeWindow
  split
  · exact enterHalted_atRest
  · split
    · exact h.of_blocks
    · exact leave
  · exact suspect
  · exact h.of_blocks
  all_goals exact h

theorem followLine_atRest (line : List LineEvent) (h : s.AtRest) : (s.followLine line).AtRest := by
  have e : (s.followLine line).lc = _ := LineController.foldl_follow s.now s.lc line
  exact h.of_blocks (hq := by rw [e]) (hc := by rw [e]) (hi := by rw [e]) (he := by rw [e]) (hd := by rw [e])

/-- The advance leaves the part at rest. -/
theorem advance_atRest (rc : Nat) (act rq : Bool) (line : List LineEvent) (h : s.AtRest) : (s.advance rc act rq line).AtRest := by
  have moved : ((((((s.followLine line).onPins fun p => { p with act := act, rq := rq }).onTb (Timebase.advance rc)).onAm
      (Meter.advance act)).onGd fun g => { g with rq := g.rq.sample rq })).AtRest :=
    (followLine_atRest line h).of_blocks (ht := rfl)
  exact moved.settle

/-- A bad frame, counted, leaves the part at rest. -/
theorem badFrame_atRest (line : List LineEvent) (h : s.AtRest) : (s.followLine line).countBad.dropReception.settle.AtRest := by
  have counted : (s.followLine line).countBad.AtRest := by
    have followed := followLine_atRest line h
    unfold State.countBad
    dsimp only
    split <;> exact followed.of_blocks
  have dropped : (s.followLine line).countBad.dropReception.AtRest := by
    unfold State.dropReception
    exact counted.of_blocks
  exact dropped.settle

/-- A SETUP is refused, and leaves the part at rest, or lets it join (R198). -/
theorem takeSetup_atRest (whole : Nat) (act rq : Bool) (r : SetupRecord) (h : s.AtRest) :
    (s.takeRecord whole (State.handleSetup act rq r)).AtRest ∨ (s.takeRecord whole (State.handleSetup act rq r)).joined = true := by
  have rise : (s.riseCsn whole).AtRest := h.of_blocks
  rcases takeRecord_cases (s := s) whole (State.handleSetup act rq r) with e | e <;> rw [e]
  · rcases handleSetup_cases (s := s.riseCsn whole) act rq r with ⟨-, _, e⟩ | ⟨hp, e⟩ <;> rw [e]
    · exact .inl rise.of_blocks.settle
    · right
      have hh : s.halted = false := by simpa using not_halted_of_unset hp
      simp [State.joined, State.part, hh]
  · exact .inl rise.settle

/-! ## Every command -/

/-- A part at rest stays at rest, but for a SETUP, which lets it join (R38, R167, R168, R198). -/
theorem exec_atRest {c : Instr} (h : exec c s = .next t) (hr : s.AtRest) : t.AtRest ∨ t.joined = true := by
  have comes : ∀ {enabled effect}, occurs enabled effect s = .next t → (enabled = true → (effect s).AtRest) → t.AtRest ∨ t.joined = true :=
    fun h comes => .inl (occurs_keeps (R := fun _ t => t.AtRest) hr comes h)
  cases c with
  | resetAssert => exact comes h fun _ => ⟨hr.joined, hr.book, hr.queue, rfl, rfl, rfl, rfl, hr.timerRunning⟩
  | resetRelease => exact comes h fun _ => releaseReset_atRest _
  | microsecondAdvance => exact comes h fun _ => advance_atRest _ _ _ _ hr
  | monitorWindowClose edges =>
    have closed : (s.onTb (Timebase.closeWindow edges)).AtRest := hr.of_blocks (ht := rfl)
    exact comes h fun _ => (judgeWindow_atRest _ closed).settle
  | epochBoundary =>
    unfold exec execEpochBoundary at h
    refine comes h fun hb => ?_
    simp [State.boundaryDue, hr.timerRunning] at hb
  | commitPoint =>
    refine comes h fun _ => ?_
    rcases takeCommitPoint_cases (s := s) with e | ⟨_, he, -⟩
    · exact e.symm ▸ hr
    · rw [hr.nextCommit] at he
      cases he
  | placedStart tag =>
    refine comes h fun _ => ?_
    rcases takePlacedStart_cases (s := s) tag with e | ⟨_, he, -⟩
    · exact e.symm ▸ hr
    · rw [hr.findEntry] at he
      cases he
  | placedEnd tag =>
    refine comes h fun _ => ?_
    rcases takePlacedEnd_cases (s := s) tag with e | ⟨_, he, -⟩
    · exact e.symm ▸ hr
    · rw [hr.findEntry] at he
      cases he
  | actLevelTaken | countDeadline | rqRise | rqFall | fastEnd => exact comes h fun _ => hr.of_blocks.settle
  | quietDeadline st =>
    refine comes h fun _ => ?_
    rcases takeQuietDeadline_cases (s := s) st with e | e <;> rw [e]
    · exact hr
    · exact hr.of_blocks.settle
  | lostDeadline st =>
    refine comes h fun _ => ?_
    rcases takeLostDeadline_cases (s := s) st with e | e <;> rw [e]
    · exact hr
    · exact hr.of_blocks.settle
  | leaseDeadline st tag =>
    refine comes h fun _ => ?_
    rcases takeLeaseDeadline_cases (s := s) st tag with e | e <;> rw [e]
    · exact hr
    · exact hr.of_blocks
  | expiryPoint st tag =>
    refine comes h fun _ => ?_
    rcases takeExpiryPoint_cases (s := s) st tag with e | e <;> rw [e]
    · exact hr
    · exact hr.of_blocks
  | joiningEnd =>
    refine comes h fun he => ?_
    obtain ⟨hw, hd⟩ := (Bool.and_eq_true _ _).mp he
    simp [State.joiningEndDue, hr.joining hw] at hd
  | acknowledgeDeadline | lineStuckDetected => exact comes h fun _ => hr.of_blocks.settle
  | lineIdle => exact comes h fun _ => reachIdle_atRest hr
  | startMark => exact comes h fun _ => takeStartMark_atRest hr
  | arbitrationLost => exact comes h fun hc => by simp [hr.contending] at hc
  | ownStartMarkReported =>
    refine comes h fun _ => ?_
    rcases reportStartMark_cases (s := s) with e | ⟨c, _, _, hc, -⟩
    · exact e.symm ▸ hr
    · rw [hr.contending] at hc
      cases hc
  | frameSent =>
    refine comes h fun _ => ?_
    rcases takeFrameSent_cases (s := s) with ⟨-, e⟩ | ⟨_, _, hf, -⟩
    · exact e.symm ▸ hr
    · rw [hr.inTransmission] at hf
      cases hf
  | readbackMismatch =>
    refine comes h fun _ => ?_
    unfold State.abandonFrame
    rw [hr.inTransmission]
    exact hr
  | driveFault => exact comes h fun hf => by simp [hr.contending, hr.inTransmission] at hf
  | beaconReceived =>
    unfold exec execBeaconReceived at h
    exact comes h fun _ => takeFrame_atRest (fun _ => takeBeacon_atRest _ _ _ hr) hr
  | claimReceived =>
    exact comes h fun _ => takeFrame_atRest (fun _ => takeClaimFrame_atRest _ _ _ (hear_atRest _ _ _ hr)) hr
  | withdrawReceived st =>
    exact comes h fun _ => takeFrame_atRest (fun latch => (hear_atRest st latch s.timeoutEpoch hr).of_blocks) hr
  | ownNumberFrame =>
    have clash : s.countClash.AtRest := hr.of_blocks
    exact comes h fun _ => (endReception_atRest (countGood_atRest clash)).settle
  | badFrame line =>
    unfold exec execBadFrame at h
    exact comes h fun _ => badFrame_atRest line hr
  | lineClearDetected =>
    unfold exec execLineClearDetected at h
    exact comes h fun _ => (lineClear_atRest hr).settle
  | dominantStretchEnd => exact comes h fun _ => endStretch_atRest hr
  | clearDriveEnd => exact comes h fun hd => by simp [State.driveEndDue, State.dueSome, hr.clearDrive] at hd
  | csnFall => exact comes h fun _ => hr.of_blocks
  | transactionEnd whole r =>
    refine comes h fun _ => takeRecord_atRest (fun b hb => ?_) hr
    rcases answerPort_cases (s := b) r with e | ⟨_, _, e⟩ <;> rw [e]
    · exact hb
    · exact hb.of_blocks
  | setup whole act rq r =>
    exact occurs_keeps (R := fun _ t => t.AtRest ∨ t.joined = true) (.inl hr) (fun _ => takeSetup_atRest whole act rq r hr) h
  | submit _ r =>
    refine comes h fun _ => takeRecord_atRest (fun b hb => ?_) hr
    rcases handleSubmit_cases (s := b) r with ⟨_, e⟩ | ⟨hj, -⟩
    · exact e.symm ▸ hb.of_blocks
    · exact absurd hj (by simp [hb.joined])
  | cancel _ tag =>
    refine comes h fun _ => takeRecord_atRest (fun b hb => ?_) hr
    rcases handleCancel_cases (s := b) tag with ⟨_, e⟩ | ⟨hj, -⟩
    · exact e.symm ▸ hb.of_blocks
    · exact absurd hj (by simp [hb.joined])
  | profileSelect _ code =>
    refine comes h fun _ => takeRecord_atRest (fun b hb => ?_) hr
    rcases handleProfileSelect_cases (s := b) code with ⟨_, e⟩ | ⟨hj, -⟩
    · exact e.symm ▸ hb.of_blocks
    · exact absurd hj (by simp [hb.joined])
  | fastSpan _ r =>
    refine comes h fun _ => takeRecord_atRest (fun b hb => ?_) hr
    rcases handleFastSpan_cases (s := b) r with ⟨_, e⟩ | ⟨hj, -⟩
    · exact e.symm ▸ hb.of_blocks
    · exact absurd hj (by simp [hb.joined])
  | clearLine _ =>
    refine comes h fun _ => takeRecord_atRest (fun b hb => ?_) hr
    rcases handleClearLine_cases (s := b) with ⟨_, e⟩ | ⟨hj, -⟩
    · exact e.symm ▸ hb.of_blocks
    · exact absurd hj (by simp [hb.joined])
  | clearAck _ =>
    refine comes h fun _ => takeRecord_atRest (fun b hb => ?_) hr
    rcases handleClearAck_cases (s := b) with e | e | e <;> rw [e] <;> exact hb.of_blocks
  | alarmClear _ flags =>
    refine comes h fun _ => takeRecord_atRest (fun b hb => ?_) hr
    rcases handleAlarmClear_cases (s := b) flags with e | e <;> rw [e] <;> exact hb.of_blocks
  | meterRead _ =>
    refine comes h fun _ => takeRecord_atRest (fun b hb => ?_) hr
    rcases handleMeterRead_cases (s := b) with ⟨_, e⟩ | ⟨hj, -⟩
    · exact e.symm ▸ hb.of_blocks
    · exact absurd hj (by simp [hb.joined])
  | statusRead _ =>
    refine comes h fun _ => takeRecord_atRest (fun b hb => ?_) hr
    unfold State.handleStatusRead
    exact hb.of_blocks
  | timeRead _ =>
    refine comes h fun _ => takeRecord_atRest (fun b hb => ?_) hr
    rcases handleTimeRead_cases (s := b) with e | e <;> rw [e] <;> exact hb.of_blocks
  | fbChangeDuringReset => exact comes h fun _ => { hr with }

/-- A joined part stays joined, but for entry to HALTED and the reset pin, which bring it to rest (R11, R13). -/
theorem exec_joined {c : Instr} (h : exec c s = .next t) (hj : s.joined = true) : t.AtRest ∨ t.joined = true := by
  cases hc : c.movesTime with
  | false => exact .inr ((exec_keepsMeter hc h).joined_eq.trans hj)
  | true =>
    have comes : ∀ {enabled effect}, occurs enabled effect s = .next t →
        (enabled = true → (effect s).AtRest ∨ (effect s).joined = true) → t.AtRest ∨ t.joined = true :=
      fun h comes => occurs_keeps (R := fun _ t => t.AtRest ∨ t.joined = true) (.inr hj) comes h
    cases c with
    | resetAssert => exact comes h fun _ => .inr hj
    | resetRelease sa => exact comes h fun _ => .inl (releaseReset_atRest sa)
    | microsecondAdvance rc act rq line =>
      exact comes h fun _ => .inr ((joined_congr (by simp [State.advance]) (by simp [State.advance])).trans hj)
    | monitorWindowClose edges =>
      refine comes h fun _ => ?_
      rcases closeWindow_cases (s := s) edges with k | e
      · exact .inr (k.joined_eq.trans hj)
      · rw [e]
        exact .inl enterHalted_atRest.settle
    | epochBoundary =>
      unfold exec execEpochBoundary at h
      exact comes h fun _ => .inr ((joined_congr (by simp) (by simp)).trans hj)
    | setup whole act rq r =>
      refine comes h fun _ => ?_
      rcases takeSetup_cases (s := s) whole act rq r with k | ⟨hp, -⟩
      · exact .inr (k.joined_eq.trans hj)
      · rw [State.joined, hp] at hj
        cases hj
    | _ => cases hc

/-- Every command leaves a part that is at rest, or joined. -/
theorem exec_atRest_or_joined {c : Instr} (h : exec c s = .next t) (hs : s.AtRest ∨ s.joined = true) : t.AtRest ∨ t.joined = true :=
  hs.elim (exec_atRest h) (exec_joined h)

theorem quietLaw_iff_or : s.QuietLaw ↔ s.AtRest ∨ s.joined = true := by
  rw [quietLaw_iff]
  constructor
  · intro h
    cases hj : s.joined with
    | false => exact .inl (h hj)
    | true => exact .inr rfl
  · rintro (h | h) hj
    · exact h
    · rw [hj] at h
      cases h

/-- Settles O58: every command leaves the part at rest or joined, and LC within its law. -/
theorem quietLawKept : Obligations.QuietLawKept := by
  constructor
  · intro s t h hq
    rw [quietLaw_iff_or] at hq ⊢
    refine step_keeps (P := fun s => s.AtRest ∨ s.joined = true) (fun s rest hp => ?_) (fun _ _ _ => exec_atRest_or_joined) h hq
    exact hp.imp (fun hp => { hp with }) id
  · intro s t h hl
    rw [lineLaw_iff] at hl ⊢
    exact step_keeps (P := fun s => s.lc.Lawful) (fun _ _ hp => hp) (fun _ _ _ => exec_lawful) h hl

end Sys2Proof.Machine
end

section
/-! O4 and O25: HALTED is left by the reset pin alone, and what entry to it gives every block. -/

namespace Sys2Proof.Machine

open Sys2Proof

variable {s t : State}

/-! ## What stands in HALTED -/

/-- HALTED stands, and with it the timebase, the station number, the parameters, the book, PR, CT, PE and PS (R11). -/
structure State.Stands (s t : State) : Prop where
  halted : t.halted = s.halted
  station : t.station = s.station
  params : t.params = s.params
  tb : t.tb = s.tb
  book : t.book = s.book
  pr : t.pr = s.pr
  ct : t.ct = s.ct
  pe : t.pe = s.pe
  ps : t.ps = s.ps

namespace State.Stands

theorem refl : s.Stands s := ⟨rfl, rfl, rfl, rfl, rfl, rfl, rfl, rfl, rfl⟩

theorem trans {u : State} (h : s.Stands t) (k : t.Stands u) : s.Stands u :=
  ⟨k.halted.trans h.halted, k.station.trans h.station, k.params.trans h.params, k.tb.trans h.tb, k.book.trans h.book, k.pr.trans h.pr,
    k.ct.trans h.ct, k.pe.trans h.pe, k.ps.trans h.ps⟩

theorem of_follows (h : s.Follows t) : s.Stands t :=
  ⟨h.halted, h.station, h.params, h.tb, h.book, h.pr, h.ct, h.pe, h.ps⟩

/-- A refusal queues its REPLY alone. -/
theorem of_refuse (kind : Byte) (reason : Reason) (tag : Tag) : s.Stands (s.refuse kind reason tag) := by constructor <;> simp

end State.Stands

/-- A CSn rise leaves what its record leaves. -/
theorem takeRecord_stands {whole : Nat} {handle : State → State} (handled : ∀ b : State, b.halted = true → b.Stands (handle b))
    (hh : s.halted = true) : s.Stands (s.takeRecord whole handle) := by
  have rise : s.Stands (s.riseCsn whole) := by constructor <;> simp
  have follows : ∀ u : State, u.Stands u.settle := fun u => .of_follows (settle_follows u)
  rcases takeRecord_cases (s := s) whole handle with e | e <;> rw [e]
  · exact rise.trans ((handled _ (rise.halted.trans hh)).trans (follows _))
  · exact rise.trans (follows _)

theorem not_joined_of_halted (hh : s.halted = true) : ¬ s.joined = true := fun hj => by
  rw [not_halted_of_joined hj] at hh
  cases hh

/-- In HALTED no event of the blocks comes about, records are refused or served from what stands, and the pins of the port and of reset
change no block named (R11, R197). -/
theorem exec_stands {c : Instr} (hh : s.halted = true) (ha : ∀ fb, c ≠ .resetAssert fb) (hr : ∀ sa, c ≠ .resetRelease sa)
    (h : exec c s = .next t) : s.Stands t := by
  have comes : ∀ {enabled effect}, occurs enabled effect s = .next t → (enabled = true → s.Stands (effect s)) → s.Stands t :=
    fun h comes => occurs_keeps .refl comes h
  have never : ∀ {enabled effect}, occurs enabled effect s = .next t → enabled = false → s.Stands t :=
    fun h hf => comes h fun he => by rw [hf] at he; cases he
  have idle : s.working = false := by simp [State.working, hh]
  cases c with
  | resetAssert fb => exact absurd rfl (ha fb)
  | resetRelease sa => exact absurd rfl (hr sa)
  | microsecondAdvance => exact never h (by simp [State.mayAdvance, idle])
  | monitorWindowClose => exact never h (by simp [State.mayClose, idle])
  | epochBoundary =>
    unfold exec execEpochBoundary at h
    exact never h (by simp [idle])
  | lineClearDetected =>
    unfold exec execLineClearDetected at h
    exact never h (by simp [idle])
  | beaconReceived =>
    unfold exec execBeaconReceived at h
    exact never h (by simp [State.receiving, idle])
  | badFrame =>
    unfold exec execBadFrame at h
    exact never h (by simp [State.receiving, idle])
  | claimReceived | withdrawReceived | ownNumberFrame => exact never h (by simp [State.receiving, idle])
  | commitPoint | placedStart | placedEnd | quietDeadline | lostDeadline | leaseDeadline | expiryPoint | ownStartMarkReported | frameSent
  | readbackMismatch | actLevelTaken | countDeadline | rqRise | rqFall | fastEnd | joiningEnd | acknowledgeDeadline | lineIdle
  | startMark | arbitrationLost | driveFault | lineStuckDetected | dominantStretchEnd | clearDriveEnd => exact never h (by simp [idle])
  | csnFall => exact comes h fun _ => by constructor <;> simp
  | fbChangeDuringReset => exact comes h fun _ => ⟨rfl, rfl, rfl, rfl, rfl, rfl, rfl, rfl, rfl⟩
  | transactionEnd _ r =>
    refine comes h fun _ => takeRecord_stands (fun b _ => ?_) hh
    rcases answerPort_cases (s := b) r with e | ⟨_, _, e⟩ <;> rw [e]
    · exact .refl
    · exact .of_refuse _ _ _
  | setup _ act rq r =>
    refine comes h fun _ => takeRecord_stands (fun b hb => ?_) hh
    rcases handleSetup_cases (s := b) act rq r with ⟨-, _, e⟩ | ⟨hp, -⟩
    · exact e.symm ▸ .of_refuse _ _ _
    · exact absurd (not_halted_of_unset hp) (by simp [hb])
  | submit _ r =>
    refine comes h fun _ => takeRecord_stands (fun b hb => ?_) hh
    rcases handleSubmit_cases (s := b) r with ⟨_, e⟩ | ⟨hj, -⟩
    · exact e.symm ▸ .of_refuse _ _ _
    · exact absurd hj (not_joined_of_halted hb)
  | cancel _ tag =>
    refine comes h fun _ => takeRecord_stands (fun b hb => ?_) hh
    rcases handleCancel_cases (s := b) tag with ⟨_, e⟩ | ⟨hj, -⟩
    · exact e.symm ▸ .of_refuse _ _ _
    · exact absurd hj (not_joined_of_halted hb)
  | profileSelect _ code =>
    refine comes h fun _ => takeRecord_stands (fun b hb => ?_) hh
    rcases handleProfileSelect_cases (s := b) code with ⟨_, e⟩ | ⟨hj, -⟩
    · exact e.symm ▸ .of_refuse _ _ _
    · exact absurd hj (not_joined_of_halted hb)
  | fastSpan _ r =>
    refine comes h fun _ => takeRecord_stands (fun b hb => ?_) hh
    rcases handleFastSpan_cases (s := b) r with ⟨_, e⟩ | ⟨hj, -⟩
    · exact e.symm ▸ .of_refuse _ _ _
    · exact absurd hj (not_joined_of_halted hb)
  | clearLine =>
    refine comes h fun _ => takeRecord_stands (fun b hb => ?_) hh
    rcases handleClearLine_cases (s := b) with ⟨_, e⟩ | ⟨hj, -⟩
    · exact e.symm ▸ .of_refuse _ _ _
    · exact absurd hj (not_joined_of_halted hb)
  | meterRead =>
    refine comes h fun _ => takeRecord_stands (fun b hb => ?_) hh
    rcases handleMeterRead_cases (s := b) with ⟨_, e⟩ | ⟨hj, -⟩
    · exact e.symm ▸ .of_refuse _ _ _
    · exact absurd hj (not_joined_of_halted hb)
  | clearAck =>
    refine comes h fun _ => takeRecord_stands (fun b hb => ?_) hh
    rw [State.handleClearAck, if_pos hb]
    exact .of_refuse _ _ _
  | alarmClear =>
    refine comes h fun _ => takeRecord_stands (fun b hb => ?_) hh
    rw [State.handleAlarmClear, if_pos hb]
    exact .of_refuse _ _ _
  | statusRead => exact comes h fun _ => takeRecord_stands (fun b _ => by constructor <;> simp [State.handleStatusRead]) hh
  | timeRead =>
    refine comes h fun _ => takeRecord_stands (fun b hb => ?_) hh
    rw [State.handleTimeRead, if_pos hb]
    exact .of_refuse _ _ _

/-- Settles O4: but for RESET_ASSERT, which sets local time to 0, each command leaves what the statement names. -/
theorem haltedStands : Obligations.HaltedStands := by
  intro c s t hh hr h
  by_cases ha : ∃ fb, c = .resetAssert fb
  · obtain ⟨fb, rfl⟩ := ha
    rcases occurs_cases h with ⟨-, rfl⟩ | ⟨-, rfl⟩
    · exact ⟨hh, rfl, rfl, rfl, rfl, rfl, rfl, rfl, fun ha => absurd rfl (ha fb)⟩
    · exact ⟨hh, rfl, rfl, rfl, rfl, rfl, rfl, rfl, fun _ => rfl⟩
  · have k := exec_stands hh (fun fb e => ha ⟨fb, e⟩) hr h
    exact ⟨k.halted.trans hh, k.station, k.params, k.book, k.pr, k.ct, k.pe, k.ps, fun _ => k.tb⟩

/-! ## Entry to HALTED -/

/-- A new raise acts on the ALERT state and its mark alone (R185). -/
@[simp] theorem State.alertNewRaise_au (s : State) : s.alertNewRaise.au.flags = s.au.flags ∧
    s.alertNewRaise.au.suspectCondition = s.au.suspectCondition ∧ s.alertNewRaise.au.stuckCondition = s.au.stuckCondition := by
  unfold State.alertNewRaise
  repeat' split
  all_goals simp

/-- A raise adds its flag to those that stand (R180). -/
theorem raiseAlarm_inSet (x a : Alarm) : x.inSet (s.raiseAlarm a).au.flags = (x == a || x.inSet s.au.flags) := by
  unfold State.raiseAlarm
  by_cases h : a.inSet s.au.flags = true
  · rw [if_pos h]
    by_cases hx : x = a
    · rw [hx, h]; simp
    · simp [hx]
  · rw [if_neg h]
    dsimp only
    split <;> simp [State.workOutHold, Alarm.inSet_or, Alarm.inSet_bit, Bool.or_comm]

/-- A raise leaves the conditions (R181). -/
@[simp] theorem State.raiseAlarm_conditions (s : State) (a : Alarm) :
    (s.raiseAlarm a).au.suspectCondition = s.au.suspectCondition ∧ (s.raiseAlarm a).au.stuckCondition = s.au.stuckCondition := by
  unfold State.raiseAlarm
  dsimp only
  repeat' split
  all_goals simp [State.workOutHold]

/-- An offer leaves the conditions. -/
@[simp] theorem State.offerNotice_conditions (s : State) (n : Notice) :
    (s.offerNotice n).au.suspectCondition = s.au.suspectCondition ∧ (s.offerNotice n).au.stuckCondition = s.au.stuckCondition := by
  unfold State.offerNotice
  split <;> simp [State.noticeLost]

/-- An offer takes no flag away (R195). -/
theorem offerNotice_inSet {x : Alarm} (n : Notice) (h : x.inSet s.au.flags = true) : x.inSet (s.offerNotice n).au.flags = true := by
  unfold State.offerNotice
  split
  · simpa using h
  · simp [State.noticeLost, raiseAlarm_inSet, h]

/-- Offered one after another, notices take no flag away and leave the conditions. -/
theorem offers_au (ns : List Notice) {x : Alarm} (h : x.inSet s.au.flags = true) :
    x.inSet (ns.foldl State.offerNotice s).au.flags = true ∧
    (ns.foldl State.offerNotice s).au.suspectCondition = s.au.suspectCondition ∧
    (ns.foldl State.offerNotice s).au.stuckCondition = s.au.stuckCondition := by
  induction ns generalizing s with
  | nil => exact ⟨h, rfl, rfl⟩
  | cons n ns ih => simpa using ih (offerNotice_inSet n h)

/-- A notice that finds three free entries is queued at the end (R195). -/
theorem offerNotice_queue (n : Notice) (h : s.rp.queue.length < 30) : (s.offerNotice n).rp.queue = s.rp.queue ++ [n] := by
  have : Config.noticeReserve ≤ s.freeNotices := by
    simp only [Config.noticeReserve, State.freeNotices, Config.noticeSize]
    omega
  rw [State.offerNotice, if_pos this]
  rfl

/-- Notices that all find three free entries are queued in their order. -/
theorem offers_queue (ns : List Notice) (h : s.rp.queue.length + ns.length ≤ 30) :
    (ns.foldl State.offerNotice s).rp.queue = s.rp.queue ++ ns := by
  induction ns generalizing s with
  | nil => simp
  | cons n ns ih =>
    rw [List.length_cons] at h
    have hn := offerNotice_queue (s := s) n (by omega)
    rw [List.foldl_cons, ih (by rw [hn, List.length_append, List.length_singleton]; omega), hn, List.append_assoc]
    rfl

/-- The state in which the book is ended: CLOCK_LOST is raised, both conditions are absent, and the part is in HALTED (R10, R11, R190). -/
def State.clockLost (s : State) : State :=
  { (((s.onTb Timebase.halt).raiseAlarm .clockLost).onAu fun u => { u with suspectCondition := false, stuckCondition := false }) with
    halted := true }

theorem enterHalted_eq : s.enterHalted = ((s.clockLost.bookHalted.onGd GrantDriver.halt).onLc LineController.halt).onAm Meter.halt := rfl

/-- Book order is that before the entry. -/
theorem clockLost_bookOrder : s.clockLost.bookOrder = s.bookOrder :=
  bookOrder_congr (by simp [State.clockLost]) (by simp [State.clockLost, Timebase.halt])

/-- AU and RP on entry to HALTED: those of the raise, with a REQ_END offered for each standing entry in book order (R11, R37). -/
theorem enterHalted_offers :
    s.enterHalted.au = ((s.bookOrder.map fun e => e.reqEnd .halted).foldl State.offerNotice s.clockLost).au ∧
    s.enterHalted.rp = ((s.bookOrder.map fun e => e.reqEnd .halted).foldl State.offerNotice s.clockLost).rp := by
  rw [enterHalted_eq, ← clockLost_bookOrder]
  simp [State.bookHalted]

theorem clockLost_inSet : Alarm.clockLost.inSet s.clockLost.au.flags = true := by simp [State.clockLost, raiseAlarm_inSet]

theorem clockLost_rp : s.clockLost.rp = (s.raiseAlarm .clockLost).rp := (raiseAlarm_congr (s := s) (t := s.onTb Timebase.halt) .clockLost rfl rfl).2

/-- Settles O25: the raise and the REQ_ENDs change AU and RP alone, and each block makes its own reaction. -/
theorem haltedEntry : Obligations.HaltedEntry := by
  intro s t ends
  obtain ⟨hau, hrp⟩ := enterHalted_offers (s := s)
  obtain ⟨hf, hs, hk⟩ := offers_au (s.bookOrder.map fun e => e.reqEnd .halted) (clockLost_inSet (s := s))
  have hp : t.part = .halted := by simp [t, State.part, State.enterHalted]
  have hj : t.joined = false := by rw [State.joined, hp]
  have hgd : t.gd = s.gd.halt := by simp [t, State.enterHalted]
  have hends : ends = s.bookOrder.map fun e => e.reqEnd .halted := by simp [ends, Entry.reqEnd, Entry.occurrencesEnded]
  refine ⟨hp, by simp [State.gntLevel, hj, hgd, GrantDriver.halt], by rw [hau]; exact hf, by rw [hau, hs]; rfl, by rw [hau, hk]; rfl,
    enterHalted_atRest.book, by simp [t, State.enterHalted, Timebase.halt], by simp [t, State.enterHalted, LineController.halt],
    by simp [t, State.enterHalted, Meter.halt], hgd, by simp [t], by simp [t], by simp [t], by simp [t], by simp [t], by simp [t], ?_⟩
  intro hroom
  rw [hends, ← clockLost_rp] at hroom ⊢
  rw [hrp]
  exact offers_queue _ hroom

end Sys2Proof.Machine
end

section
/-! O1, O6 and O7: a step and its command, and the commands of the reset pin. -/

namespace Sys2Proof.Machine

open Sys2Proof

/-- Settles O1: both parts are the definition of `step`. -/
theorem stepTakesFront : Obligations.StepTakesFront := by
  constructor
  · intro s c rest h
    rw [step, h]
  · intro s h
    rw [step, h]

/-- While RSTn is low, no event comes about but those of the reset pin and of FB. -/
theorem exec_of_rstLow {s : State} {c : Instr} (hl : s.pins.rstLow = true) (hr : ∀ sa, c ≠ .resetRelease sa)
    (hf : ∀ fb, c ≠ .fbChangeDuringReset fb) : exec c s = .next s := by
  have idle : s.working = false := by simp [State.working, hl]
  have port : (!s.pins.rstLow) = false := by simp [hl]
  have deaf : s.receiving = false := by simp [State.receiving, idle]
  cases c with
  | resetRelease sa => exact absurd rfl (hr sa)
  | fbChangeDuringReset fb => exact absurd rfl (hf fb)
  | resetAssert | transactionEnd | setup | submit | cancel | profileSelect | fastSpan | clearLine | clearAck | alarmClear | meterRead
  | statusRead | timeRead => exact occurs_of_disabled port _ s
  | csnFall => exact occurs_of_disabled (by simp [hl]) _ s
  | microsecondAdvance => exact occurs_of_disabled (by simp [State.mayAdvance, idle]) _ s
  | monitorWindowClose => exact occurs_of_disabled (by simp [State.mayClose, idle]) _ s
  | claimReceived | withdrawReceived | ownNumberFrame => exact occurs_of_disabled deaf _ s
  | beaconReceived =>
    unfold exec execBeaconReceived
    exact occurs_of_disabled deaf _ s
  | badFrame =>
    unfold exec execBadFrame
    exact occurs_of_disabled (by simp [deaf]) _ s
  | commitPoint | placedStart | placedEnd | quietDeadline | lostDeadline | leaseDeadline | expiryPoint | frameSent
  | readbackMismatch => exact occurs_of_disabled idle _ s
  | epochBoundary =>
    unfold exec execEpochBoundary
    exact occurs_of_disabled (by simp [idle]) _ s
  | lineClearDetected =>
    unfold exec execLineClearDetected
    exact occurs_of_disabled (by simp [idle]) _ s
  | ownStartMarkReported | actLevelTaken | countDeadline | rqRise | rqFall | fastEnd | joiningEnd | acknowledgeDeadline | lineIdle | startMark
  | arbitrationLost | driveFault | lineStuckDetected | dominantStretchEnd | clearDriveEnd =>
    exact occurs_of_disabled (by simp [idle]) _ s

/-- Settles O6: the two events change what they name, and no other comes about while RSTn is low. -/
theorem resetLineLow : Obligations.ResetLineLow :=
  ⟨fun fb s h => occurs_of_enabled (by simp [h]) (State.assertReset fb) s,
    fun fb s h => occurs_of_enabled h (State.changeFb fb) s,
    fun _ _ => exec_of_rstLow⟩

/-- Settles O7: the state after reset, with the levels of the pins, the count of reports and the queue of commands kept. -/
theorem resetRelease : Obligations.ResetRelease := by
  intro sa s h record t
  have ht : s.releaseReset sa = t := rfl
  exact ⟨ht ▸ occurs_of_enabled h (State.releaseReset sa) s, rfl⟩

end Sys2Proof.Machine
end

section
/-! O12 and O20: SETUP in UNSET, and the reads. -/

namespace Sys2Proof.Machine

open Sys2Proof

variable {s b : State}

/-- A command that is a CSn rise answers what its record gives, followed by what follows every event (R193). -/
theorem rise_settles {c : Instr} {whole : Nat} {handle : State → State} {u : State} (hl : s.pins.rstLow = false)
    (hc : exec c s = occurs (!s.pins.rstLow) (State.takeRecord whole handle) s) (hb : s.riseCsn whole = b) (hf : 1 ≤ b.freeNotices)
    (hu : handle b = u) : ∃ t, exec c s = .next t ∧ u.Follows t :=
  ⟨_, hc.trans (occurs_of_enabled (by simp [hl]) _ s), takeRecord_taken hb hf hu⟩

/-- An empty queue takes the beacon that is asked for (R45, R155). -/
theorem askBeacon_of_empty (h : s.lc.queue = []) :
    s.askBeacon.lc = { s.lc with queue := [⟨.beacon, s.lc.nextAsk⟩], nextAsk := s.lc.nextAsk + 1 } := by
  simp [State.askBeacon, State.enqueue, State.makeRoom, State.dequeue, h, Config.transmitSize]

/-- LC at SETUP acceptance is asked for a BEACON (R45, R46). -/
theorem acceptSetup_lc {act rq : Bool} {f : SetupFields} (h : s.lc.queue = []) : (s.acceptSetup act rq f).lc =
    { s.lc with queue := [⟨.beacon, s.lc.nextAsk⟩], nextAsk := s.lc.nextAsk + 1 } := by
  unfold State.acceptSetup State.enterJoining
  rw [askBeacon_of_empty (by simpa using h)]
  simp

/-- Settles O12: the blocks are those of `acceptSetup`, and the REPLY and the expiry points settle on them. -/
theorem setupAccepted : Obligations.SetupAccepted := by
  intro whole act rq r f s b hl hb hf hp hq hv initial au
  subst hv
  refine rise_settles hl rfl hb hf ?_
  have hpart : b.part = .unset := by
    rw [← hp, ← hb]
    exact part_congr (by simp) (by simp)
  rcases handleSetup_cases (s := b) act rq r with ⟨hn, -⟩ | ⟨-, e⟩
  · exact absurd hpart hn
  · rw [e]
    have hqueue : b.lc.queue = [] := by rw [← hb]; simpa using hq
    apply State.eq_of_blocks
    case h10 =>
      cases hi : (takeSetup r).value.initial <;> simp [Meter.setUp, Filter.startAt, SetupFields.initialProfile, initial, hi]
    case h11 => exact acceptSetup_lc hqueue
    case h14 => simp [State.accept, State.reply, kindSetup]
    all_goals simp [Timebase.setUp, GrantDriver.setUp, Filter.startAt, State.now, au]

/-- A report offered leaves the count of reports, which then goes on. -/
theorem nextFree_offer (n : Notice) (reply : Notice) :
    ((b.pushNotice reply).offerNotice n).nextFree = { (b.pushNotice reply).offerNotice n with free := b.free + 1 } := by
  simp [State.nextFree]

/-- Settles O20, read by read. -/
theorem reads : Obligations.Reads := by
  intro whole s b hl hb hf
  refine ⟨fun hj => ?_, rise_settles hl rfl hb hf (nextFree_offer _ _), fun hh => ?_⟩
  · refine rise_settles hl rfl hb hf ?_
    have hjb : b.joined = true := by
      rw [← hj, ← hb]
      exact joined_congr (by simp) (by simp)
    rcases whenJoined_cases (s := b) kindMeterRead 0 fun s => (s.accept kindMeterRead []).offerNotice s.meterReport with
      ⟨-, e⟩ | ⟨hn, -⟩
    · exact e
    · rw [hjb] at hn
      cases hn
  · refine rise_settles hl rfl hb hf ?_
    have hhb : b.halted = false := by
      rw [← hb]
      simpa using hh
    rw [State.handleTimeRead, hhb]
    exact nextFree_offer _ _

end Sys2Proof.Machine
end

section
/-! O23, O24 and O26: the advance, the close of a window and the epoch boundary. -/

namespace Sys2Proof.Machine

open Sys2Proof

variable {s : State}

/-! ## The advance -/

/-- A filter's sample, as a count of the samples of a new level (R124, R133). -/
theorem Filter.sample_eq (f : Filter) (pin : Bool) :
    f.sample pin = if f.running = false then f else { f with samples := if pin = f.level then 0 else f.samples + 1 } := by
  unfold Filter.sample
  cases hr : f.running
  · simp
  · by_cases hp : pin = f.level <;> simp [hp]

/-- An advance counts the microsecond when filtered ACT is high (R134). -/
theorem Meter.advance_eq (act : Bool) (m : Meter) : m.advance act =
    { m with usage := m.usage + (if m.act.running = true ∧ m.act.level = true then 1 else 0), act := m.act.sample act } := by
  unfold Meter.advance
  cases m.act.running <;> cases m.act.level <;> rfl

/-- A stretch that has reached 64 bit times undetected makes the advance wait (R162). -/
theorem mayAdvance_of_clearDue {rc : Nat} {line : List LineEvent} (h : s.clearDue = true) : s.mayAdvance rc line = false := by
  simp [State.mayAdvance, State.anyDue, h]

/-- What LC makes of each event of the line (R150, R162). -/
theorem LineController.follow_fall (now : Time) (l : LineController) : l.follow now .fall = { l with
    receiver := match l.receiver with
      | .waitIdle _ => .waitIdle 0
      | .idle => .idle
      | .frame => .frame
    stretch := some (l.stretch.getD now) } := by
  cases hr : l.receiver <;> simp [LineController.follow, Receiver.follow, hr]

theorem LineController.follow_rise (now : Time) (l : LineController) : l.follow now .rise = { l with stretch := none } := by
  cases hr : l.receiver <;> simp [LineController.follow, Receiver.follow, hr]

theorem LineController.follow_bit_waiting (now : Time) {l : LineController} {n : Nat} (hr : l.receiver = .waitIdle n) :
    l.follow now .recessiveBit = { l with receiver := if n < 10 then .waitIdle (n + 1) else .idle } := by
  simp [LineController.follow, Receiver.follow, hr, Config.idleBits, show n + 1 < 11 ↔ n < 10 by omega]

theorem LineController.follow_bit_passed (now : Time) {l : LineController} (hr : l.receiver = .idle ∨ l.receiver = .frame) :
    l.follow now .recessiveBit = l := by
  have hf : l.receiver.follow .recessiveBit = l.receiver := by rcases hr with hr | hr <;> rw [hr] <;> rfl
  rw [LineController.follow, hf]

/-- An event with no row of its own, by its kind. -/
theorem LineController.plainEvent_iff (l : LineController) (e : LineEvent) : l.plainEvent e = true ↔
    (e = .fall → l.receiver ≠ .idle) ∧ (e = .rise → l.clearDetected = false ∧ l.clearDrive = none) ∧
      (e = .recessiveBit → l.stretch = none ∧ ∀ n, l.receiver = .waitIdle n → n < 10) := by
  cases e with
  | fall => simp [LineController.plainEvent]
  | rise => simp [LineController.plainEvent]
  | recessiveBit =>
    cases hr : l.receiver with
    | waitIdle n =>
      have idle : Receiver.follow (.waitIdle n) .recessiveBit ≠ .idle ↔ n < 10 := by
        rw [Receiver.follow, Config.idleBits]
        split <;> simp <;> omega
      simp [LineController.plainEvent, hr, idle]
    | idle => simp [LineController.plainEvent, hr]
    | frame => simp [LineController.plainEvent, Receiver.follow, hr]

/-- No more bits end than a microsecond can hold (R147). -/
theorem bitsFit_iff (line : List LineEvent) : bitsFit line = true ↔ line.count .recessiveBit ≤ 3 := decide_eq_true_iff

/-- Everything the advance does before what follows it: each block counts or samples its microsecond (R1, R9, R124, R133, R134, R150). -/
theorem advance_eq (rc : Nat) (act rq : Bool) (line : List LineEvent) : s.advance rc act rq line = State.settle
    { s with
      pins := { s.pins with act := act, rq := rq }
      tb := s.tb.advance rc
      am := s.am.advance act
      gd := { s.gd with rq := s.gd.rq.sample rq }
      lc := line.foldl (LineController.follow s.now) s.lc } := rfl

/-- Settles O23: each block's share of the advance, then the two ways in which it waits. -/
theorem advance : Obligations.Advance := by
  refine ⟨fun rc act rq line s => ?_, fun now l => ⟨l.follow_fall now, l.follow_rise now,
    fun _ => LineController.follow_bit_waiting now, LineController.follow_bit_passed now⟩, fun s line => ?_⟩
  · intro sample
    refine ⟨fun hm => ⟨_, occurs_of_enabled hm _ s, ?_⟩, fun hm => occurs_of_disabled hm _ s, fun start hs hc hd => ?_, fun hf => ?_⟩
    · rw [advance_eq, Meter.advance_eq, Filter.sample_eq, Filter.sample_eq]
      exact settle_follows _
    · apply mayAdvance_of_clearDue
      simpa [State.clearDue, State.stretchLong, State.dueSome, State.due, hs, hc, Config.clearStretch] using hd
    · simp [State.mayAdvance, hf]
  · simp only [State.mayFollow, Bool.and_eq_true, LineController.plainEvents_iff, LineController.plainEvent_iff, bitsFit_iff]

/-! ## The close of a window -/

/-- The verdicts (R9). -/
theorem verdictOf_inRange {n : Nat} (h : 5530 ≤ n ∧ n ≤ 6758) : verdictOf n = .inRange := by
  unfold verdictOf
  rw [if_neg (by omega), if_neg (by omega), if_pos h.2]

theorem verdictOf_outOfRange {n : Nat} (h0 : n ≠ 0) (h : ¬ (5530 ≤ n ∧ n ≤ 6758)) : verdictOf n = .outOfRange := by
  unfold verdictOf
  rw [if_neg h0]
  split
  · rfl
  · rw [if_neg (by omega)]

/-- When a window can close (R9). -/
theorem mayClose_iff (edges : Nat) : s.mayClose edges = true ↔ s.working = true ∧ s.tb.prescale + edges < 24 ∧
    s.tb.windowCount + edges ≤ 6759 ∧ (s.tb.rcCycles < 2048 ∨ edges = 0) := by
  simp only [State.mayClose, Bool.and_eq_true, Bool.or_eq_true, decide_eq_true_eq, beq_iff_eq, and_assoc]
  rfl

/-- What the monitor does in CLOCK_SUSPECT at a window in range: the run goes on, or its 16th window ends the suspicion (R10). -/
theorem judgeWindow_inRange_suspect (hs : s.tb.monitor = .clockSuspect) : s.judgeWindow .inRange =
    if s.tb.goodRun < 15 then { s with tb := { s.tb with goodRun := s.tb.goodRun + 1 } } else s.leaveSuspect := by
  by_cases hg : s.tb.goodRun < 15
  · simp [State.judgeWindow, hs, hg, State.onTb, show s.tb.goodRun + 1 < 16 by omega]
  · simp [State.judgeWindow, hs, hg, show ¬ s.tb.goodRun + 1 < 16 by omega]

/-- Settles O24: the monitor's table, verdict by verdict and state by state (R10). -/
theorem monitorWindow : Obligations.MonitorWindow := by
  intro edges s
  constructor
  · intro hr he
    refine occurs_of_disabled (Bool.eq_false_iff.mpr fun hm => ?_) _ s
    obtain ⟨-, -, -, h | h⟩ := (mayClose_iff edges).mp hm
    · omega
    · exact he h
  · intro hw hp hc hr count closed judged inRange
    have hm : s.mayClose edges = true := (mayClose_iff edges).mpr ⟨hw, hp, hc, hr⟩
    have htake : ∀ {u : State}, closed.judgeWindow (verdictOf count) = u → u.Follows (s.closeWindow edges) := by
      rintro u rfl
      exact settle_follows _
    refine ⟨_, occurs_of_enabled hm _ s, fun h0 => htake ?_, fun hv hs => htake ?_, fun hv hs hg => htake ?_, fun hv hs hg => htake ?_,
      fun h0 hv hs => htake ?_, fun h0 hv hs => htake ?_⟩
    · rw [h0]
      rfl
    · rw [verdictOf_inRange hv]
      simp [State.judgeWindow, closed, hs]
    · rw [verdictOf_inRange hv, judgeWindow_inRange_suspect (s := closed) hs, if_pos hg]
      simp [judged, closed, hs]
    · rw [verdictOf_inRange hv, judgeWindow_inRange_suspect (s := closed) hs, if_neg (by simpa [closed] using hg)]
      rfl
    · rw [verdictOf_outOfRange h0 hv]
      simp [State.judgeWindow, judged, closed, hs, State.onTb]
    · rw [verdictOf_outOfRange h0 hv]
      simp only [State.judgeWindow, closed, hs]
      rfl

end Sys2Proof.Machine
end

section
/-! O26: the epoch boundary. -/

namespace Sys2Proof.Machine

open Sys2Proof

variable {s : State}

/-- The blocks that close the epoch: TB moves its boundaries, and AM takes the epoch into the ring (R7, R137). -/
def State.closeEpoch (s : State) : State :=
  { s with tb := s.tb.boundary, am := s.am.close s.tb.epochLength (s.tb.epochCount + 1) }

theorem takeBoundary_eq : s.takeBoundary = s.closeEpoch.askBeacon.repeatClaims.switchProfile := rfl

/-- The claims repeated are those of the book order before the boundary, by the new epoch count (R60, R61). -/
theorem repeatClaims_closeEpoch : s.closeEpoch.askBeacon.repeatClaims = s.closeEpoch.askBeacon.askClaims
    ((s.bookOrder.filter fun e => e.announced && e.standing && !e.held &&
      (s.pe.joining == .joining || e.lastAnnounced.any fun n => 8 ≤ (s.tb.epochCount + 1 - n).toNat)).map Entry.tag) := by
  have horder : s.closeEpoch.askBeacon.bookOrder = s.bookOrder :=
    bookOrder_congr (by simp [State.closeEpoch]) (by simp [State.closeEpoch, Timebase.boundary])
  have hrepeats : s.closeEpoch.askBeacon.repeats = fun e => e.announced && e.standing && !e.held &&
      (s.pe.joining == .joining || e.lastAnnounced.any fun n => 8 ≤ (s.tb.epochCount + 1 - n).toNat) := by
    funext e
    cases hn : e.lastAnnounced <;> simp [State.repeats, Entry.liveClaim, State.closeEpoch, Timebase.boundary, hn]
  rw [State.repeatClaims, horder, hrepeats]

/-- The epoch is closed when PS switches, so that AM takes the share target of the pending profile at once (R138, R173). -/
theorem switchProfile_closed {p : ProfileName} {q : ProfileStore} {m : Meter} {epoch : BitVec 32} {now : Time} (hq : s.ps = q)
    (hm : s.am = m) (he : s.tb.epochCount = epoch) (hn : s.now = now) (hp : q.pending = some p) (hr : m.runningEpoch = epoch) :
    s.switchProfile = State.offerNotice
      { s with
        ps := { q with inForce := some p, pending := none }
        am := { m with shareTarget := some ({ s with ps := { q with inForce := some p, pending := none } } : State).profile.share } }
      (.profileApplied p epoch now) := by
  subst hq hm he hn
  simp only [State.switchProfile, hp, State.onPs, State.onAm, Meter.takeTarget, hr, if_true]

/-- Settles O26: the reactions of the blocks in their order at the boundary. -/
theorem epochBoundary : Obligations.EpochBoundary := by
  intro boundary s hw ht hn hd epoch ring closed repeated asked
  have hdue : (s.working && s.boundaryDue) = true := by
    simp [hw, State.boundaryDue, ht, hn, State.dueSome, State.due, hd]
  have hclosed : s.closeEpoch = closed := by
    have target : (s.am.stagedTarget <|> s.am.shareTarget) = if s.am.stagedTarget.isSome then s.am.stagedTarget else s.am.shareTarget := by
      cases s.am.stagedTarget <;> rfl
    simp [State.closeEpoch, Timebase.boundary, Meter.close, closed, hn, epoch, ring, usedShare, target]
  have hasked : s.closeEpoch.askBeacon.repeatClaims = asked := by rw [repeatClaims_closeEpoch, hclosed]
  have htake : ∀ {u : State}, asked.switchProfile = u → u.Follows s.takeBoundary.settle := by
    rintro u rfl
    rw [takeBoundary_eq, hasked]
    exact settle_follows _
  have hps : asked.ps = s.ps := by simp [asked, closed]
  refine ⟨s.takeBoundary.settle, ?_, fun hp => htake ?_, fun p hp => htake ?_⟩
  · unfold exec execEpochBoundary
    exact occurs_of_enabled hdue _ s
  · rw [State.switchProfile, hps, hp]
  · exact switchProfile_closed hps (by simp [asked]) (by simp [asked, closed]) (by simp [asked, closed, State.now]) hp rfl

end Sys2Proof.Machine
end

section
/-! O43: line idle, start marks and lost arbitration. -/

namespace Sys2Proof.Machine

open Sys2Proof

variable {s : State}

/-! ## Line idle -/

/-- Recessive bits alone reach line idle at the last of them exactly when they make the 11th (R150). -/
theorem reachesIdle_recessive {n : Nat} (hn : n < 11) (k : Nat) :
    Receiver.reachesIdle (.waitIdle n) (List.replicate k .recessiveBit) = true ↔ n + k = 11 := by
  rw [Receiver.reachesIdle, List.dropLast_replicate, Receiver.follow_recessive hn, Receiver.follow_recessive hn]
  by_cases h1 : n + (k - 1) < 11 <;> by_cases h2 : n + k < 11 <;> simp [h1, h2] <;> omega

/-- A receiver that waits for idle, on a line that brings recessive bits alone. -/
theorem idleReached_waiting {n k : Nat} (hn : n < 11) (hr : s.lc.receiver = .waitIdle n) :
    s.idleReached (List.replicate k .recessiveBit) = true ↔ k ≤ 3 ∧ n + k = 11 := by
  rw [State.idleReached, hr, Bool.and_eq_true, Bool.or_eq_true, bitsFit_iff, reachesIdle_recessive hn]
  simp

/-- A receiver at line idle has a later occasion to contend at each recessive bit (notes/assumptions/11). -/
theorem idleReached_idle {k : Nat} (hr : s.lc.receiver = .idle) :
    s.idleReached (List.replicate k .recessiveBit) = true ↔ k ≤ 3 := by
  rw [State.idleReached, hr, Bool.and_eq_true, bitsFit_iff]
  simp

/-- A receiver in FRAME reaches no line idle (R150). -/
theorem idleReached_frame (hr : s.lc.receiver = .frame) (line : List LineEvent) : s.idleReached line = false := by
  rw [State.idleReached, hr, Receiver.reachesIdle, Receiver.foldl_follow_stays (.inr rfl) line]
  simp

/-- A line on which nothing is timed, driven or sent is free. -/
theorem lineFree_iff : s.lineFree = true ↔ s.lc.stretch = none ∧ s.lc.clearDrive = none ∧ s.lc.contending = none ∧
    s.lc.inTransmission = none := by
  simp [State.lineFree, and_assoc]

/-! ## The start mark -/

/-- An empty queue has no head frame. -/
theorem headFrame_of_empty (h : s.lc.queue = []) : s.headFrame = none := by rw [State.headFrame, h, State.firstOf]

/-- The own station joins with no frame when it contends already, is not joined, or has none queued (R147, R151). -/
theorem takeStartMark_alone (h : s.lc.contending.isSome = true ∨ s.joined = false ∨ s.lc.queue = []) :
    s.takeStartMark = { s with lc := { s.lc with receiver := .frame, latch := some s.now, stretch := some s.now } } := by
  unfold State.takeStartMark
  split
  · rename_i hc
    have hcontend : s.contend = s := by
      rcases h with h | h | h
      · rw [Option.isNone_iff_eq_none.mp hc] at h
        cases h
      · cases hf : s.headFrame <;> simp [State.contend, hf, h]
      · simp [State.contend, headFrame_of_empty h]
    rw [hcontend]
    rfl
  · rfl

/-- The own head frame joins with the key it then has (R151). -/
theorem takeStartMark_joins {f : QueuedFrame} (hc : s.lc.contending = none) (hj : s.joined = true) (hf : s.headFrame = some f) :
    s.takeStartMark = { s with lc := { s.lc with
      receiver := .frame, latch := some s.now, stretch := some s.now, contending := some ⟨f.ref, s.keyKind f.ref⟩
      driver := .sending } } := by
  simp [State.takeStartMark, hc, State.contend, hf, hj, State.onLc, LineController.beginFrame, State.now]

/-- At line idle no start mark is sent by a station that is not joined or has no frame queued (R151). -/
theorem reachIdle_alone (h : s.joined = false ∨ s.lc.queue = []) :
    s.reachIdle = { s with lc := { s.lc with receiver := .idle } } := by
  have hn : ¬ (s.joined && s.headFrame.isSome) = true := by
    rcases h with h | h
    · simp [h]
    · simp [headFrame_of_empty h]
  rw [State.reachIdle, if_neg hn]
  rfl

/-- At line idle the own start mark is sent with the head frame's key (R151). -/
theorem reachIdle_joins {f : QueuedFrame} (hc : s.lc.contending = none) (hj : s.joined = true) (hf : s.headFrame = some f) :
    s.reachIdle = { s with lc := { s.lc with
      receiver := .frame, latch := some s.now, stretch := some s.now, contending := some ⟨f.ref, s.keyKind f.ref⟩
      driver := .sending } } := by
  rw [State.reachIdle, if_pos (by simp [hj, hf])]
  have hf' : (s.onLc fun l => { l with receiver := .idle }).headFrame = some f := by
    rw [← hf]
    exact headFrame_congr rfl rfl rfl
  exact takeStartMark_joins hc hj hf'

/-- Settles O43: the count toward line idle, then the start mark and the lost arbitration. -/
theorem contention : Obligations.Contention := by
  unfold Obligations.Contention
  intro kind
  have hkind : ∀ s ref, kind s ref = s.keyKind ref := by
    intro s ref
    cases ref with
    | beacon => rfl
    | withdraw tag => rfl
    | claim tag => cases hf : s.findEntry tag <;> simp [kind, State.keyKind, hf]
  refine ⟨fun n k hn => ?_, fun s line hr => ?_, fun s k hw hk hr hs hd hc hi => ?_, fun s hw hr hs hd hi => ⟨fun h => ?_, fun f hc hj hf => ?_⟩,
    fun s hw hc hr => ?_⟩
  · intro events
    have he : events = List.replicate k .recessiveBit := lineEvents_recessive k
    refine ⟨he, fun h => ?_, fun h => ?_, fun s hr hk => ?_⟩
    · rw [he, Receiver.follow_recessive hn, if_pos h]
    · rw [he, Receiver.follow_recessive hn, if_neg (by omega)]
    · have hnot : s.idleReached events = false := by
        rw [he, Bool.eq_false_iff]
        exact fun h => hk ((idleReached_waiting hn hr).mp h).2
      exact occurs_of_disabled (by simp [hnot]) _ s
  · exact occurs_of_disabled (by simp [idleReached_frame hr]) _ s
  · intro reached
    have hreached : s.idleReached (List.replicate k .recessiveBit) = true := by
      rcases hr with hr | ⟨n, hn, hnk, hr⟩
      · exact (idleReached_idle hr).mpr hk
      · exact (idleReached_waiting hn hr).mpr ⟨hk, hnk⟩
    have hexec : exec reached s = .next s.reachIdle :=
      occurs_of_enabled (by rw [hw, hreached, lineFree_iff.mpr ⟨hs, hd, hc, hi⟩]; rfl) State.reachIdle s
    exact ⟨fun h => hexec.trans (by rw [reachIdle_alone h]), fun f hj hf => hexec.trans (by rw [reachIdle_joins hc hj hf, hkind])⟩
  · rw [← takeStartMark_alone h]
    exact occurs_of_enabled (by simp [hw, hr, hs, hd, hi]) State.takeStartMark s
  · rw [hkind, ← takeStartMark_joins hc hj hf]
    exact occurs_of_enabled (by simp [hw, hr, hs, hd, hi]) State.takeStartMark s
  · exact occurs_of_enabled (by simp [hw, hc, hr]) State.stopContending s

end Sys2Proof.Machine
end

section
/-! O45: the end of an own frame. -/

namespace Sys2Proof.Machine

open Sys2Proof

variable {s : State} {f : QueuedFrame}

/-- A frame is in the transmit queue. -/
theorem queueHolds_iff (ref : FrameRef) : s.queueHolds ref = true ↔ ∃ g ∈ s.lc.queue, g.ref = ref := by
  simp [State.queueHolds]

/-- A frame for a tag is in the transmit queue. -/
theorem queueHoldsTag_iff (tag : Tag) : s.queueHoldsTag tag = true ↔ ∃ g ∈ s.lc.queue, g.ref.tagOf = some tag := by
  simp [State.queueHoldsTag]

/-- A frame that finds room goes back at the end of the queue (R156). -/
theorem putBack_of_room (h : s.lc.queue.length < 17) : s.putBack f = { s with lc := { s.lc with queue := s.lc.queue ++ [f] } } := by
  have hroom : s.makeRoom = s := if_pos h
  rw [State.putBack, hroom]
  rfl

/-! ## The return of an abandoned frame (R45, R63, R156) -/

theorem returnFrame_beacon_held (hf : f.ref = .beacon) (h : ∃ g ∈ s.lc.queue, g.ref = .beacon) : s.returnFrame f = s := by
  rw [State.returnFrame, hf]
  exact if_pos ((queueHolds_iff _).mpr h)

theorem returnFrame_beacon (hf : f.ref = .beacon) (h : ∀ g ∈ s.lc.queue, g.ref ≠ .beacon) : s.returnFrame f = s.putBack f := by
  rw [State.returnFrame, hf]
  exact if_neg fun hq => by
    obtain ⟨g, hg, hb⟩ := (queueHolds_iff _).mp hq
    exact h g hg hb

/-- The queue holds no frame for the tag of this one. -/
theorem queueHoldsTag_of_free {tag : Tag} (hf : f.ref.tagOf = some tag) :
    s.queueHoldsTag tag = false ↔ ∀ g ∈ s.lc.queue, g.ref.tagOf ≠ f.ref.tagOf := by
  rw [Bool.eq_false_iff, ne_eq, queueHoldsTag_iff, hf]
  simp

theorem returnFrame_claim {tag : Tag} {e : Entry} (hf : f.ref = .claim tag) (he : s.findEntry tag = some e) (hs : e.state ≠ .retiring)
    (hh : e.held = false) (free : ∀ g ∈ s.lc.queue, g.ref.tagOf ≠ f.ref.tagOf) : s.returnFrame f = s.putBack f := by
  have hq : s.queueHoldsTag tag = false := (queueHoldsTag_of_free (by rw [hf]; rfl)).mpr free
  rw [State.returnFrame, hf]
  simp [he, Entry.standing, hs, hh, hq]

theorem returnFrame_claim_discarded {tag : Tag} (hf : f.ref = .claim tag)
    (h : (∀ e, s.findEntry tag = some e → e.state = .retiring ∨ e.held = true) ∨ ¬ ∀ g ∈ s.lc.queue, g.ref.tagOf ≠ f.ref.tagOf) :
    s.returnFrame f = s := by
  rw [State.returnFrame, hf]
  cases he : s.findEntry tag with
  | none => simp only [he]
  | some e =>
    simp only [he]
    refine if_neg fun hb => ?_
    simp only [Bool.and_eq_true, Bool.not_eq_true', Entry.standing, bne_iff_ne] at hb
    obtain ⟨⟨hs, hh⟩, hq⟩ := hb
    rcases h with h | h
    · rcases h e he with h | h
      · exact hs h
      · rw [h] at hh
        cases hh
    · exact h ((queueHoldsTag_of_free (by rw [hf]; rfl)).mp hq)

theorem returnFrame_withdraw {tag : Tag} (hf : f.ref = .withdraw tag) (free : ∀ g ∈ s.lc.queue, g.ref.tagOf ≠ f.ref.tagOf)
    (hroom : s.lc.queue.length < 17) : s.returnFrame f = s.putBack f := by
  have hq : s.queueHoldsTag tag = false := (queueHoldsTag_of_free (by rw [hf]; rfl)).mpr free
  rw [State.returnFrame, hf]
  simp [hq, Config.transmitSize, hroom]

theorem returnFrame_withdraw_discarded {tag : Tag} (hf : f.ref = .withdraw tag)
    (h : ¬ (∀ g ∈ s.lc.queue, g.ref.tagOf ≠ f.ref.tagOf) ∨ 17 ≤ s.lc.queue.length) : s.returnFrame f = s := by
  rw [State.returnFrame, hf]
  refine if_neg fun hb => ?_
  simp only [Bool.and_eq_true, Bool.not_eq_true', decide_eq_true_eq] at hb
  obtain ⟨hq, hroom⟩ := hb
  rcases h with h | h
  · exact h ((queueHoldsTag_of_free (by rw [hf]; rfl)).mp hq)
  · exact absurd hroom (by simpa [Config.transmitSize] using h)

/-- What a frame sent leaves (R46, R150, R154). -/
theorem takeFrameSent_eq {g : OwnFrame} (hg : s.lc.inTransmission = some g) :
    s.takeFrameSent =
      { s with
        lc := { s.lc with inTransmission := none, driver := .released, receiver := .waitIdle 7, latch := none, stretch := none }
        pr := { s.pr with freshOwed := if carriesFresh g.frame.body then false else s.pr.freshOwed } } := by
  rw [State.takeFrameSent, hg]
  cases h : carriesFresh g.frame.body <;> simp only [h] <;> rfl

/-- A frame that is no FRESH beacon carries no FRESH. -/
theorem carriesFresh_eq_false {body : FrameBody} (h : ∀ b, body = .beacon b → b.fresh = false) : carriesFresh body = false := by
  cases body with
  | beacon b => exact h b rfl
  | claim => rfl
  | withdraw => rfl

/-- Settles O45: the outcome of `returnFrame` by the frame's kind, and the raise of a drive fault after it. -/
theorem ownFrameEnds : Obligations.OwnFrameEnds := by
  refine ⟨fun s hw hc => ?_, fun s f hw hf => ?_⟩
  · refine ⟨_, occurs_of_enabled (by simp [hw, hc]) State.takeDriveFault s, ?_⟩
    rw [State.takeDriveFault, if_pos hc]
    exact settle_follows _
  · intro sent stopped back free
    refine ⟨fun hb => ?_, fun b hb hfresh => ?_, fun u hu => ?_⟩
    · have hsent : s.takeFrameSent = sent := by
        rw [takeFrameSent_eq hf, carriesFresh_eq_false hb]
        rfl
      rw [← hsent]
      exact occurs_of_enabled hw State.takeFrameSent s
    · have hcarries : carriesFresh f.frame.body = true := by
        rw [hb]
        exact hfresh
      have hsent : s.takeFrameSent = { sent with pr := { s.pr with freshOwed := false } } := by
        rw [takeFrameSent_eq hf, hcarries]
        rfl
      rw [← hsent]
      exact occurs_of_enabled hw State.takeFrameSent s
    · have hback : stopped.returnFrame f.queued = u := by
        rcases hu with ⟨hr, hq, rfl⟩ | ⟨hr, hq, hroom, rfl⟩ | ⟨⟨tag, e, hr, he, hs, hh⟩, hq, hroom, rfl⟩ | ⟨⟨tag, hr, h⟩, rfl⟩ |
          ⟨⟨tag, hr⟩, hq, hroom, rfl⟩ | ⟨⟨tag, hr⟩, h, rfl⟩
        · exact returnFrame_beacon_held hr hq
        · exact (returnFrame_beacon (s := stopped) hr hq).trans (putBack_of_room (s := stopped) hroom)
        · exact (returnFrame_claim (s := stopped) hr he hs hh hq).trans (putBack_of_room (s := stopped) hroom)
        · exact returnFrame_claim_discarded hr h
        · exact (returnFrame_withdraw (s := stopped) hr hq hroom).trans (putBack_of_room (s := stopped) hroom)
        · exact returnFrame_withdraw_discarded hr h
      have habandon : s.abandonFrame = u := by
        rw [← hback, State.abandonFrame, hf]
        rfl
      refine ⟨?_, fun hc => ⟨_, occurs_of_enabled (by simp [hw, hf]) State.takeDriveFault s, ?_⟩⟩
      · rw [← habandon]
        exact occurs_of_enabled hw State.abandonFrame s
      · rw [State.takeDriveFault, if_neg (by simp [hc]), habandon]
        exact settle_follows _

end Sys2Proof.Machine
end

section
/-! SUPPORT. The laws of the request book and of the transmit queue, part by part, and the relation of two states by which every command
keeps them. -/

namespace Sys2Proof.Machine

open Sys2Proof

variable {s t u : State} {tag : Tag} {e : Entry}

/-! ## The laws, part by part -/

/-- The fields of an entry lie in range, and it holds a placement inside its claim window exactly while COMMITTED or ACTIVE (R25, R30, R104). -/
def Entry.WellPlaced (e : Entry) : Prop :=
  e.request.inRange ∧
    if e.state = .committed ∨ e.state = .active then ∃ p, e.placement = some p ∧ e.holdsPlacement p else e.placement = none

theorem placementLaw_iff : s.PlacementLaw ↔ ∀ e ∈ s.book, e.WellPlaced := .rfl

/-- A COMMITTED or ACTIVE entry is well placed by its placement. -/
theorem Entry.WellPlaced.of_placed {p : Placement} (hr : e.request.inRange) (hs : e.state = .committed ∨ e.state = .active)
    (hp : e.placement = some p) (h : e.holdsPlacement p) : e.WellPlaced :=
  ⟨hr, by rw [if_pos hs]; exact ⟨p, hp, h⟩⟩

/-- An entry in another state is well placed without a placement. -/
theorem Entry.WellPlaced.of_unplaced (hr : e.request.inRange) (hs : ¬ (e.state = .committed ∨ e.state = .active))
    (hp : e.placement = none) : e.WellPlaced :=
  ⟨hr, by rw [if_neg hs]; exact hp⟩

/-- The placement of a COMMITTED or ACTIVE entry. -/
theorem Entry.WellPlaced.placement (h : e.WellPlaced) (hs : e.state = .committed ∨ e.state = .active) :
    ∃ p, e.placement = some p ∧ e.holdsPlacement p := by
  have hp := h.2
  rwa [if_pos hs] at hp

/-- Being well placed rests on the request, the state, the window start and the placement. -/
theorem Entry.WellPlaced.congr {x : Entry} (h : e.WellPlaced) (hr : x.request = e.request) (hs : x.state = e.state)
    (hw : x.windowStart = e.windowStart) (hp : x.placement = e.placement) : x.WellPlaced := by
  unfold Entry.WellPlaced Entry.holdsPlacement at h ⊢
  rwa [hr, hs, hw, hp]

/-- No two frames of one tag and no two beacons: no two frames with one answer of `tagOf`, a beacon's being none. -/
theorem nodup_tagOf_iff (queue : List QueuedFrame) : (queue.map fun f => f.ref.tagOf).Nodup ↔
    (queue.filterMap fun f => f.ref.tagOf).Nodup ∧ queue.countP (fun f => f.ref == .beacon) ≤ 1 := by
  induction queue with
  | nil => simp
  | cons f queue ih =>
    have none_iff : (∀ g ∈ queue, g.ref.tagOf ≠ none) ↔ queue.countP (fun g => g.ref == .beacon) = 0 := by
      rw [List.countP_eq_zero]
      refine forall₂_congr fun g _ => ?_
      cases g.ref <;> simp [FrameRef.tagOf]
    rw [List.map_cons, List.nodup_cons, ih]
    cases hf : f.ref with
    | beacon =>
      have : none ∉ queue.map (fun g => g.ref.tagOf) ↔ queue.countP (fun g => g.ref == .beacon) = 0 := by
        rw [← none_iff]
        simp
      rw [show FrameRef.beacon.tagOf = none from rfl, this, List.filterMap_cons_none (by simp [hf, FrameRef.tagOf]),
        List.countP_cons_of_pos (by simp [hf])]
      constructor
      · rintro ⟨h0, hn, -⟩
        exact ⟨hn, by omega⟩
      · rintro ⟨hn, h1⟩
        exact ⟨by omega, hn, by omega⟩
    | claim t | withdraw t =>
      rw [List.filterMap_cons_some (b := t) (by simp [hf, FrameRef.tagOf]), List.countP_cons_of_neg (by simp [hf]), List.nodup_cons]
      simp [FrameRef.tagOf, and_assoc]

/-- The law of the transmit queue over a book: at most 17 frames, no two for one tag and no two beacons, and no CLAIM but for a standing
entry (R155). -/
structure FramesLawful (book : List Entry) (queue : List QueuedFrame) : Prop where
  size : queue.length ≤ 17
  tags : (queue.map fun f => f.ref.tagOf).Nodup
  claims : ∀ f ∈ queue, ∀ t, f.ref = .claim t → ∃ e ∈ book, e.tag = t ∧ e.standing = true

theorem queueLaw_iff : s.QueueLaw ↔ FramesLawful s.book s.lc.queue := by
  constructor
  · rintro ⟨hsize, htags, hbeacons, hclaims⟩
    exact ⟨hsize, (nodup_tagOf_iff _).mpr ⟨htags, hbeacons⟩, hclaims⟩
  · rintro ⟨hsize, htags, hclaims⟩
    obtain ⟨htags, hbeacons⟩ := (nodup_tagOf_iff _).mp htags
    exact ⟨hsize, htags, hbeacons, hclaims⟩

namespace FramesLawful

variable {book book' : List Entry} {queue queue' : List QueuedFrame}

theorem nil : FramesLawful book [] := ⟨Nat.zero_le _, .nil, nofun⟩

/-- Frames that leave keep the law. -/
theorem sublist (h : FramesLawful book queue) (hs : queue'.Sublist queue) : FramesLawful book queue' :=
  ⟨hs.length_le.trans h.size, h.tags.sublist (hs.map _), fun f hf => h.claims f (hs.subset hf)⟩

/-- A change of the book keeps the law when the standing entries with a queued CLAIM stay standing. -/
theorem of_book (h : FramesLawful book queue)
    (stays : ∀ e ∈ book, e.standing = true → (∃ f ∈ queue, f.ref = .claim e.tag) → ∃ e' ∈ book', e'.tag = e.tag ∧ e'.standing = true) :
    FramesLawful book' queue := by
  refine ⟨h.size, h.tags, fun f hf t ht => ?_⟩
  obtain ⟨e, he, rfl, hs⟩ := h.claims f hf t ht
  exact stays e he hs ⟨f, hf, ht⟩

/-- A frame whose tag no queued frame has joins a queue with room. -/
theorem append {f : QueuedFrame} (h : FramesLawful book queue) (room : queue.length < 17)
    (free : ∀ g ∈ queue, g.ref.tagOf ≠ f.ref.tagOf) (claim : ∀ t, f.ref = .claim t → ∃ e ∈ book, e.tag = t ∧ e.standing = true) :
    FramesLawful book (queue ++ [f]) := by
  refine ⟨by simpa using room, ?_, fun g hg t ht => ?_⟩
  · rw [List.map_append, List.map_singleton, List.nodup_append]
    refine ⟨h.tags, List.nodup_singleton _, fun a ha b hb => ?_⟩
    obtain ⟨g, hg, rfl⟩ := List.mem_map.mp ha
    rw [List.mem_singleton.mp hb]
    exact free g hg
  · rcases List.mem_append.mp hg with hg | hg
    · exact h.claims g hg t ht
    · rw [List.mem_singleton.mp hg] at ht
      exact claim t ht

end FramesLawful

/-- With distinct tags, an entry of the book is the one found by its tag (R20). -/
theorem findEntry_of_mem (h : s.BookLaw) (he : e ∈ s.book) : s.findEntry e.tag = some e := by
  have key : ∀ l : List Entry, (l.map Entry.tag).Nodup → e ∈ l → l.find? (fun x => x.tag == e.tag) = some e := by
    intro l
    induction l with
    | nil => intro _ he; cases he
    | cons x l ih =>
      intro hn he
      rw [List.map_cons, List.nodup_cons] at hn
      obtain ⟨hx, hn⟩ := hn
      rcases List.mem_cons.mp he with rfl | he
      · simp
      · have hne : x.tag ≠ e.tag := fun hxe => hx (hxe ▸ List.mem_map_of_mem he)
        rw [List.find?_cons_of_neg (by simpa using hne)]
        exact ih hn he
  exact key s.book h.2 he

/-! ## An empty book and an empty queue -/

theorem State.AtRest.bookLaw (h : s.AtRest) : s.BookLaw := by simp [State.BookLaw, h.book]

theorem State.AtRest.queueLaw (h : s.AtRest) : s.QueueLaw := by
  rw [queueLaw_iff, h.queue]
  exact .nil

theorem State.AtRest.placementLaw (h : s.AtRest) : s.PlacementLaw := by simp [State.PlacementLaw, h.book]

/-! ## What keeps the laws -/

/-- From `s` to `t` the law of the book is kept, and with it that of the transmit queue and that of the placements. -/
structure State.KeepsRequests (s t : State) : Prop where
  book : s.BookLaw → t.BookLaw
  queue : s.BookLaw → s.QueueLaw → t.QueueLaw
  placement : s.BookLaw → s.PlacementLaw → t.PlacementLaw

namespace State.KeepsRequests

theorem refl : s.KeepsRequests s := ⟨id, fun _ => id, fun _ => id⟩

theorem trans (h : s.KeepsRequests t) (k : t.KeepsRequests u) : s.KeepsRequests u :=
  ⟨fun hb => k.book (h.book hb), fun hb hq => k.queue (h.book hb) (h.queue hb hq), fun hb hp => k.placement (h.book hb) (h.placement hb hp)⟩

/-- Frames that leave the transmit queue, and a change of other blocks. -/
theorem of_sublist (hb : t.book = s.book) (hq : t.lc.queue.Sublist s.lc.queue) : s.KeepsRequests t := by
  refine ⟨fun h => ?_, fun _ h => ?_, fun _ h => ?_⟩
  · rwa [State.BookLaw, hb]
  · rw [queueLaw_iff] at h ⊢
    rw [hb]
    exact h.sublist hq
  · rwa [State.PlacementLaw, hb]

/-- A change of other blocks. -/
theorem of_same (hb : t.book = s.book := by simp) (hq : t.lc.queue = s.lc.queue := by simp) : s.KeepsRequests t :=
  of_sublist hb (hq ▸ .refl _)

/-- A change of other blocks after what keeps the laws. -/
theorem then_same (h : s.KeepsRequests t) (hb : u.book = t.book := by simp) (hq : u.lc.queue = t.lc.queue := by simp) : s.KeepsRequests u :=
  h.trans (of_same hb hq)

/-- A part at rest meets every law. -/
theorem of_atRest (h : t.AtRest) : s.KeepsRequests t := ⟨fun _ => h.bookLaw, fun _ _ => h.queueLaw, fun _ _ => h.placementLaw⟩

/-- What follows an event leaves the book and the queue. -/
theorem settle (h : s.KeepsRequests t) : s.KeepsRequests t.settle := by
  refine h.trans (of_same (by simp) ?_)
  rcases (settle_follows t).lc with ⟨-, e⟩ | ⟨-, e⟩ <;> rw [e]

/-- Entries are changed one by one, keeping their tags, their standing and their placement law, and frames leave the queue. -/
theorem of_map (f : Entry → Entry) (hb : t.book = s.book.map f) (hq : t.lc.queue.Sublist s.lc.queue) (htag : ∀ x : Entry, (f x).tag = x.tag)
    (hstanding : ∀ x : Entry, x.standing = true → (f x).standing = true)
    (hplaced : s.BookLaw → ∀ x ∈ s.book, x.WellPlaced → (f x).WellPlaced) : s.KeepsRequests t := by
  refine ⟨fun h => ?_, fun _ h => ?_, fun hl h => ?_⟩
  · have hmap : (s.book.map f).map Entry.tag = s.book.map Entry.tag := by
      rw [List.map_map]
      exact List.map_congr_left fun x _ => htag x
    rw [State.BookLaw, hb, hmap, List.length_map]
    exact h
  · rw [queueLaw_iff] at h ⊢
    rw [hb]
    exact (h.sublist hq).of_book fun x hx hs _ => ⟨f x, List.mem_map_of_mem hx, htag x, hstanding x hs⟩
  · rw [placementLaw_iff] at h ⊢
    rw [hb]
    intro x hx
    obtain ⟨y, hy, rfl⟩ := List.mem_map.mp hx
    exact hplaced hl y hy (h y hy)

/-- The entry of a tag is changed, keeping its tag, its standing and its placement law. -/
theorem of_update {f : Entry → Entry} (htag : ∀ x : Entry, (f x).tag = x.tag) (hstanding : ∀ x : Entry, x.standing = true → (f x).standing = true)
    (hplaced : ∀ x, s.findEntry tag = some x → x.WellPlaced → (f x).WellPlaced) : s.KeepsRequests (s.updateEntry tag f) := by
  refine of_map (fun x => if x.tag == tag then f x else x) rfl (.refl _) (fun x => ?_) (fun x hx => ?_) fun hl x hx hp => ?_
  · split
    · exact htag x
    · rfl
  · split
    · exact hstanding x hx
    · exact hx
  · split
    · rename_i ht
      refine hplaced x ?_ hp
      rw [← beq_iff_eq.mp ht]
      exact findEntry_of_mem hl hx
    · exact hp

/-- Entries leave the book, and with a standing one its queued CLAIM. -/
theorem of_leave (p : Entry → Bool) (hb : t.book = s.book.filter p) (hq : t.lc.queue.Sublist s.lc.queue)
    (hclaim : s.BookLaw → ∀ x ∈ s.book, x.standing = true → p x = false → ∀ f ∈ t.lc.queue, f.ref ≠ .claim x.tag) : s.KeepsRequests t := by
  have hsub : (s.book.filter p).Sublist s.book := List.filter_sublist
  refine ⟨fun h => ?_, fun hl h => ?_, fun _ h => ?_⟩
  · rw [State.BookLaw, hb]
    exact ⟨hsub.length_le.trans h.1, h.2.sublist (hsub.map _)⟩
  · rw [queueLaw_iff] at h ⊢
    rw [hb]
    refine (h.sublist hq).of_book fun x hx hs hf => ⟨x, List.mem_filter.mpr ⟨hx, ?_⟩, rfl, hs⟩
    obtain ⟨f, hf, hr⟩ := hf
    cases hp : p x with
    | true => rfl
    | false => exact absurd hr (hclaim hl x hx hs hp f hf)
  · rw [placementLaw_iff] at h ⊢
    rw [hb]
    exact fun x hx => h x (hsub.subset hx)

end State.KeepsRequests

end Sys2Proof.Machine
end

section
/-! SUPPORT. The asks keep the laws of the book and of the transmit queue: a full queue that is asked for one more frame holds a WITHDRAW to
discard (R155). -/

namespace Sys2Proof.Machine

open Sys2Proof

variable {s t u : State} {tag : Tag} {e : Entry} {ref : FrameRef}

/-! ## Room in the transmit queue -/

/-- The earliest of some frames is one of them, and there is one unless there are none. -/
theorem earliestAsked_cases (l : List QueuedFrame) : l = [] ∧ earliestAsked l = none ∨ ∃ f ∈ l, earliestAsked l = some f := by
  induction l with
  | nil => exact .inl ⟨rfl, rfl⟩
  | cons f l ih =>
    right
    unfold earliestAsked
    rcases ih with ⟨-, h⟩ | ⟨g, hg, h⟩ <;> rw [h]
    · exact ⟨f, List.mem_cons_self, rfl⟩
    · dsimp only
      split
      · exact ⟨f, List.mem_cons_self, rfl⟩
      · exact ⟨g, List.mem_cons_of_mem f hg, rfl⟩

/-- A frame can join the queue: none is queued with its tag, the queue has room or the tag is that of an entry, and a CLAIM has its standing
entry (R59, R62, R155). -/
structure State.Admits (s : State) (ref : FrameRef) : Prop where
  free : ∀ f ∈ s.lc.queue, f.ref.tagOf ≠ ref.tagOf
  known : s.lc.queue.length < 17 ∨ ∀ t, ref.tagOf = some t → ∃ e ∈ s.book, e.tag = t
  claim : ∀ t, ref = .claim t → ∃ e ∈ s.book, e.tag = t ∧ e.standing = true

/-- A full queue without a frame for a tag of the book, or without a beacon, holds a WITHDRAW whose tag has left the book: its 17 frames and
the one more have 18 different answers of `tagOf`, and the tags of the book with a beacon's none make 17 (R20, R155). -/
theorem exists_orphan (hb : s.BookLaw) (hq : s.QueueLaw) (hfull : s.lc.queue.length = 17)
    (free : ∀ f ∈ s.lc.queue, f.ref.tagOf ≠ ref.tagOf) (known : ∀ t, ref.tagOf = some t → ∃ e ∈ s.book, e.tag = t) :
    ∃ f ∈ s.lc.queue, s.orphan f = true := by
  by_contra hno
  rw [queueLaw_iff] at hq
  have intags : ∀ {o : Option Tag}, (∀ t, o = some t → ∃ e ∈ s.book, e.tag = t) → o ∈ none :: (s.book.map Entry.tag).map some := by
    intro o ho
    cases o with
    | none => exact List.mem_cons_self
    | some t =>
      obtain ⟨e, he, rfl⟩ := ho t rfl
      exact List.mem_cons_of_mem _ (List.mem_map_of_mem (List.mem_map_of_mem he))
  have owned : ∀ f ∈ s.lc.queue, ∀ t, f.ref.tagOf = some t → ∃ e ∈ s.book, e.tag = t := by
    intro f hf t ht
    cases hr : f.ref with
    | beacon =>
      rw [hr] at ht
      cases ht
    | claim t' =>
      rw [hr] at ht
      cases ht
      obtain ⟨e, he, het, -⟩ := hq.claims f hf _ hr
      exact ⟨e, he, het⟩
    | withdraw t' =>
      rw [hr] at ht
      cases ht
      cases hfe : s.findEntry t with
      | none => exact absurd ⟨f, hf, by simp [State.orphan, hr, hfe]⟩ hno
      | some e => exact ⟨e, findEntry_mem hfe, findEntry_tag hfe⟩
  have hnodup : (ref.tagOf :: s.lc.queue.map fun f => f.ref.tagOf).Nodup := by
    refine List.nodup_cons.mpr ⟨fun hm => ?_, hq.tags⟩
    obtain ⟨f, hf, hft⟩ := List.mem_map.mp hm
    exact free f hf hft
  have hsub : (ref.tagOf :: s.lc.queue.map fun f => f.ref.tagOf) ⊆ none :: (s.book.map Entry.tag).map some := by
    intro o ho
    rcases List.mem_cons.mp ho with rfl | ho
    · exact intags known
    · obtain ⟨f, hf, rfl⟩ := List.mem_map.mp ho
      exact intags (owned f hf)
  have hlen := (List.subperm_of_subset hnodup hsub).length_le
  have hbook := hb.1
  simp only [List.length_cons, List.length_map] at hlen
  omega

/-- An ask for a frame that can join finds room, or makes it (R155). -/
theorem makeRoom_room (hb : s.BookLaw) (hq : s.QueueLaw) (h : s.Admits ref) :
    s.makeRoom.lc.queue.Sublist s.lc.queue ∧ s.makeRoom.lc.queue.length < 17 := by
  unfold State.makeRoom
  by_cases hroom : s.lc.queue.length < 17
  · rw [if_pos (by simpa [Config.transmitSize] using hroom)]
    exact ⟨.refl _, hroom⟩
  · rw [if_neg (by simpa [Config.transmitSize] using hroom)]
    have hsize := hq.1
    obtain ⟨g, hg, ho⟩ := exists_orphan hb hq (by omega) h.free (h.known.resolve_left hroom)
    rcases earliestAsked_cases (s.lc.queue.filter s.orphan) with ⟨hnil, -⟩ | ⟨f, hf, hfirst⟩
    · exact absurd (List.mem_filter.mpr ⟨hg, ho⟩) (by simp [hnil])
    · rw [hfirst]
      have hlt : (s.lc.queue.filter fun x => x.ref != f.ref).length < s.lc.queue.length :=
        List.length_filter_lt_length_iff_exists.mpr ⟨f, (List.mem_filter.mp hf).1, by simp⟩
      exact ⟨List.filter_sublist, hlt.trans_le hsize⟩

/-- A frame that can join does so in the room made for it. -/
theorem State.KeepsRequests.of_join {f : QueuedFrame} (hbook : t.book = s.book) (hqueue : t.lc.queue = s.makeRoom.lc.queue ++ [f])
    (h : s.BookLaw → s.QueueLaw → s.Admits f.ref) : s.KeepsRequests t := by
  refine ⟨fun hb => ?_, fun hb hq => ?_, fun _ hp => ?_⟩
  · rwa [State.BookLaw, hbook]
  · have ha := h hb hq
    obtain ⟨hsub, hroom⟩ := makeRoom_room hb hq ha
    rw [queueLaw_iff] at hq ⊢
    rw [hbook, hqueue]
    exact (hq.sublist hsub).append hroom (fun g hg => ha.free g (hsub.subset hg)) ha.claim
  · rwa [State.PlacementLaw, hbook]

theorem enqueue_keeps (h : s.BookLaw → s.QueueLaw → s.Admits ref) : s.KeepsRequests (s.enqueue ref) :=
  .of_join (f := ⟨ref, s.makeRoom.lc.nextAsk⟩) (by simp) rfl h

theorem putBack_keeps {f : QueuedFrame} (h : s.BookLaw → s.QueueLaw → s.Admits f.ref) : s.KeepsRequests (s.putBack f) :=
  .of_join (f := f) (by simp [State.putBack]) rfl h

theorem dequeue_keeps (ref : FrameRef) : s.KeepsRequests (s.dequeue ref) := .of_sublist rfl List.filter_sublist

/-! ## The asks -/

/-- A frame left in the queue is not the one that was taken out, and was in it before. -/
theorem mem_dequeue {f : QueuedFrame} : f ∈ (s.dequeue ref).lc.queue ↔ f ∈ s.lc.queue ∧ f.ref ≠ ref := by
  simp [State.dequeue]

/-- The frames of a tag are its CLAIM and its WITHDRAW (R155). -/
theorem FrameRef.tagOf_eq_some : ref.tagOf = some tag ↔ ref = .claim tag ∨ ref = .withdraw tag := by
  cases ref <;> simp [FrameRef.tagOf]

theorem FrameRef.tagOf_eq_none : ref.tagOf = none ↔ ref = .beacon := by
  cases ref <;> simp [FrameRef.tagOf]

theorem askBeacon_keeps : s.KeepsRequests s.askBeacon := by
  refine (dequeue_keeps .beacon).trans (enqueue_keeps fun _ _ => ⟨fun f hf hn => ?_, .inr nofun, nofun⟩)
  exact (mem_dequeue.mp hf).2 (FrameRef.tagOf_eq_none.mp hn)

theorem askClaim_keeps (tag : Tag) : s.KeepsRequests (s.askClaim tag) := by
  unfold State.askClaim
  cases hf : s.findEntry tag with
  | none => exact .refl
  | some e =>
    have hmem := findEntry_mem hf
    have htag := findEntry_tag hf
    dsimp only
    split
    · exact .refl
    · rename_i hstands
      have hs : e.standing = true := by
        cases hs : e.standing
        · simp [hs] at hstands
        · rfl
      have known : ∀ t, (FrameRef.claim tag).tagOf = some t → ∃ e ∈ s.book, e.tag = t := fun t ht => by
        cases ht
        exact ⟨e, hmem, htag⟩
      have claim : ∀ t, FrameRef.claim tag = .claim t → ∃ e ∈ s.book, e.tag = t ∧ e.standing = true := fun t ht => by
        cases ht
        exact ⟨e, hmem, htag, hs⟩
      split
      · exact .refl
      · rename_i hclaim
        have noclaim : ∀ f ∈ s.lc.queue, f.ref ≠ .claim tag := fun f hf hr => hclaim ((queueHolds_iff _).mpr ⟨f, hf, hr⟩)
        split
        · refine (dequeue_keeps _).trans (enqueue_keeps fun _ _ => ⟨fun f hf ht => ?_, .inr (by simpa using known), by simpa using claim⟩)
          obtain ⟨hf, hr⟩ := mem_dequeue.mp hf
          exact (FrameRef.tagOf_eq_some.mp ht).elim (noclaim f hf) hr
        · rename_i hwithdraw
          refine enqueue_keeps fun _ _ => ⟨fun f hf ht => ?_, .inr known, claim⟩
          rcases FrameRef.tagOf_eq_some.mp ht with hr | hr
          · exact noclaim f hf hr
          · exact hwithdraw ((queueHolds_iff _).mpr ⟨f, hf, hr⟩)

theorem askClaims_keeps (tags : List Tag) : s.KeepsRequests (s.askClaims tags) := by
  unfold State.askClaims
  induction tags generalizing s with
  | nil => exact .refl
  | cons t tags ih => exact (askClaim_keeps t).trans ih

theorem releaseHeldClaims_keeps : s.KeepsRequests s.releaseHeldClaims := by
  have released : s.KeepsRequests (s.onBook (List.map fun e => if e.standing then { e with held := false } else e)) := by
    refine .of_map _ rfl (.refl _) (fun x => ?_) (fun x hx => ?_) fun _ x _ hp => ?_
    · split <;> rfl
    · rw [if_pos hx]
      exact hx
    · split
      · exact hp.congr rfl rfl rfl rfl
      · exact hp
  exact released.trans (askClaims_keeps _)

/-- An abandoned frame goes back only where it can join (R45, R63, R156). -/
theorem returnFrame_keeps (f : QueuedFrame) : s.KeepsRequests (s.returnFrame f) := by
  have free : ∀ {t}, f.ref.tagOf = some t → s.queueHoldsTag t = false → ∀ g ∈ s.lc.queue, g.ref.tagOf ≠ f.ref.tagOf :=
    fun ht h => (queueHoldsTag_of_free ht).mp h
  unfold State.returnFrame
  split
  · rename_i hr
    split
    · exact .refl
    · rename_i hb
      refine putBack_keeps fun _ _ => ⟨fun g hg ht => ?_, .inr (by simp [hr, FrameRef.tagOf]), by simp [hr]⟩
      rw [hr] at ht
      exact hb ((queueHolds_iff _).mpr ⟨g, hg, FrameRef.tagOf_eq_none.mp ht⟩)
  · rename_i t hr
    split
    · rename_i e hf
      split
      · rename_i h
        simp only [Bool.and_eq_true, Bool.not_eq_true'] at h
        obtain ⟨⟨hs, -⟩, hq⟩ := h
        refine putBack_keeps fun _ _ => ⟨free (by rw [hr]; rfl) hq, .inr fun t' ht => ?_, fun t' ht => ?_⟩
        · rw [hr] at ht
          cases ht
          exact ⟨e, findEntry_mem hf, findEntry_tag hf⟩
        · rw [hr] at ht
          cases ht
          exact ⟨e, findEntry_mem hf, findEntry_tag hf, hs⟩
      · exact .refl
    · exact .refl
  · rename_i t hr
    split
    · rename_i h
      simp only [Bool.and_eq_true, Bool.not_eq_true', decide_eq_true_eq] at h
      obtain ⟨hq, hroom⟩ := h
      exact putBack_keeps fun _ _ => ⟨free (by rw [hr]; rfl) hq, .inl hroom, by simp [hr]⟩
    · exact .refl

end Sys2Proof.Machine
end

section
/-! SUPPORT. Commits, the ends of occurrences and the late test keep the laws of the book, of the transmit queue and of the placements. -/

namespace Sys2Proof.Machine

open Sys2Proof

variable {s t u : State} {tag : Tag} {e : Entry}

/-! ## The placement a commit gives -/

/-- A candidate lies inside the slack (R100). -/
theorem candidates_range {pieces : List Interval} {ws c : Int} {slack : Nat} (h : c ∈ candidates pieces ws slack) :
    ws ≤ c ∧ c ≤ ws + slack := by
  rcases List.mem_cons.mp h with rfl | h
  · omega
  · have hc := (List.mem_filter.mp h).2
    simp only [Bool.and_eq_true, decide_eq_true_eq] at hc
    omega

theorem runEnd_le (pieces : List Interval) (windowEnd c : Int) : runEnd pieces windowEnd c ≤ windowEnd := by
  unfold runEnd
  induction pieces generalizing windowEnd with
  | nil => exact le_refl _
  | cons p pieces ih =>
    refine (ih _).trans ?_
    beta_reduce
    split
    · exact min_le_left _ _
    · exact le_refl _

/-- A free run ends no later than the window (R100). -/
theorem freeRun_le {pieces : List Interval} {windowEnd c : Int} (h : c ≤ windowEnd) : freeRun pieces windowEnd c ≤ windowEnd - c := by
  have := runEnd_le pieces windowEnd c
  unfold freeRun
  split <;> omega

/-- A grant is of the full duration and lies inside the claim window (R101). -/
theorem place_grant {pieces : List Interval} {ws start : Int} {duration slack len : Nat} {minDuration : Option Nat}
    (h : place pieces ws duration slack minDuration = .grant start len) : len = duration ∧ ws ≤ start ∧ start ≤ ws + slack := by
  unfold place at h
  dsimp only at h
  split at h
  · rename_i c hc
    cases h
    exact ⟨rfl, candidates_range (List.mem_of_find?_eq_some hc)⟩
  · split at h
    · cases h
    · split at h <;> cases h

/-- A clip is at least min duration long and lies inside the claim window (R102). -/
theorem place_clip {pieces : List Interval} {ws start : Int} {duration slack len : Nat} {minDuration : Option Nat}
    (h : place pieces ws duration slack minDuration = .clip start len) :
    ws ≤ start ∧ start + len ≤ ws + (duration + slack : Nat) ∧ ∃ m, minDuration = some m ∧ (m ≤ duration → m ≤ len) := by
  unfold place at h
  dsimp only at h
  split at h
  · cases h
  · split at h
    · cases h
    · rename_i m
      split at h
      · rename_i c hc
        obtain ⟨hlow, hhigh⟩ := candidates_range (List.mem_of_find?_eq_some hc)
        have hmin : (m : Int) ≤ freeRun pieces (ws + (duration + slack : Nat)) c := by simpa using List.find?_some hc
        have hend := freeRun_le (pieces := pieces) (show c ≤ ws + (duration + slack : Nat) by omega)
        cases h
        exact ⟨hlow, by omega, m, rfl, by omega⟩
      · cases h

/-- A start given as a distance from the window start, no further than 2^32, is as far from it in local time (R2). -/
theorem timeAt_sub_toNat {w : Time} {start : Int} (hlow : s.distance w ≤ start) (hhigh : start < s.distance w + 4294967296) :
    (s.timeAt start - w).toNat = (start - s.distance w).toNat := by
  obtain ⟨k, hk⟩ := Int.eq_ofNat_of_zero_le (show 0 ≤ start - s.distance w by omega)
  have hstart : start = s.distance w + (k : Int) := by omega
  have hdist : BitVec.ofInt 32 (s.distance w) = w - s.now := BitVec.ofInt_toInt
  have htime : s.timeAt start - w = BitVec.ofNat 32 k := by
    rw [State.timeAt, hstart, BitVec.ofInt_add, hdist, BitVec.ofInt_natCast]
    ring
  rw [htime, hk, BitVec.toNat_ofNat, Nat.mod_eq_of_lt (by omega)]
  rfl

/-- A placement given by distances inside the claim window and long enough is held (R104). -/
theorem Entry.holdsPlacement_timeAt {start : Int} {len : Nat} {clipped : Bool} (hr : e.request.inRange) (hlow : s.distance e.windowStart ≤ start)
    (hhigh : start + len ≤ s.distance e.windowStart + (e.request.claimWindow : Nat))
    (hlen : e.request.minDuration.getD e.request.duration ≤ len) : e.holdsPlacement ⟨s.timeAt start, len, clipped⟩ := by
  obtain ⟨-, hd, hs, -⟩ := hr
  have hw : e.request.claimWindow = e.request.duration + e.request.slack := rfl
  refine ⟨?_, hlen⟩
  rw [timeAt_sub_toNat hlow (by omega)]
  dsimp only
  omega

/-- The min duration of an entry that has one lies below its duration, so that the full duration is long enough (R14). -/
theorem Request.inRange.min_le {q : Request} (h : q.inRange) : q.minDuration.getD q.duration ≤ q.duration := by
  obtain ⟨-, -, -, hm⟩ := h
  cases hq : q.minDuration with
  | none => exact le_refl _
  | some m => exact (hm m hq).2

theorem decide_eq_place {d : Decision} (h : s.decide e = d) (hd : d ≠ .skipJoining) : ∃ pieces,
    place pieces (s.distance e.windowStart) e.request.duration e.request.slack e.request.minDuration = d := by
  unfold State.decide at h
  split at h
  · exact absurd h.symm hd
  · exact ⟨_, h⟩

/-- A granted occurrence holds its placement (R101, R104). -/
theorem decide_grant {start : Int} {len : Nat} {clipped : Bool} (hr : e.request.inRange) (h : s.decide e = .grant start len) :
    e.holdsPlacement ⟨s.timeAt start, len, clipped⟩ := by
  obtain ⟨pieces, hp⟩ := decide_eq_place h nofun
  obtain ⟨rfl, hlow, hhigh⟩ := place_grant hp
  have hw : e.request.claimWindow = e.request.duration + e.request.slack := rfl
  exact Entry.holdsPlacement_timeAt hr hlow (by omega) hr.min_le

/-- A clipped occurrence holds its placement (R102, R104). -/
theorem decide_clip {start : Int} {len : Nat} {clipped : Bool} (hr : e.request.inRange) (h : s.decide e = .clip start len) :
    e.holdsPlacement ⟨s.timeAt start, len, clipped⟩ := by
  obtain ⟨pieces, hp⟩ := decide_eq_place h nofun
  obtain ⟨hlow, hhigh, m, hm, hlen⟩ := place_clip hp
  refine Entry.holdsPlacement_timeAt hr hlow hhigh ?_
  rw [hm]
  exact hlen (hr.2.2.2 m hm).2

/-! ## The end of an occurrence -/

/-- The occurrence of no entry ends, or the last one of an entry, or an earlier one (R28). -/
theorem occurrenceEnds_cases (tag : Tag) : s.findEntry tag = none ∧ s.occurrenceEnds tag = s ∨
    (∃ e, s.findEntry tag = some e ∧ e.onLast = true ∧
      s.occurrenceEnds tag = ((s.removeEntry tag).offerNotice (e.reqEnd .done)).dequeue (.claim tag)) ∨
    ∃ e, s.findEntry tag = some e ∧ e.onLast = false ∧ s.occurrenceEnds tag = s.updateEntry tag fun e => e.advanced s.params.lead := by
  unfold State.occurrenceEnds
  cases hf : s.findEntry tag with
  | none => exact .inl ⟨rfl, rfl⟩
  | some e =>
    right
    cases hl : e.onLast with
    | true => exact .inl ⟨e, rfl, hl, by simp only [hl, if_true]⟩
    | false => exact .inr ⟨e, rfl, hl, by simp only [hl]; rfl⟩

/-- A change of the entries with a tag, tag kept, leaves the other entries. -/
theorem filter_map_tag {f : Entry → Entry} (hf : ∀ x : Entry, (f x).tag = x.tag) (l : List Entry) :
    (l.map fun x => if x.tag == tag then f x else x).filter (fun x => x.tag != tag) = l.filter fun x => x.tag != tag := by
  induction l with
  | nil => rfl
  | cons x l ih => by_cases hx : x.tag = tag <;> simp_all

/-- An occurrence ends after a change of its entry that leaves the request, the standing and the tag: what the change does to the state and to
the placement is gone with the occurrence. -/
theorem occurrenceEnds_keeps {f : Entry → Entry} (hb : u.book = (s.updateEntry tag f).book) (hq : u.lc.queue = s.lc.queue)
    (hreq : ∀ x : Entry, (f x).request = x.request) (hstanding : ∀ x : Entry, x.standing = true → (f x).standing = true) :
    s.KeepsRequests (u.occurrenceEnds tag) := by
  have htag : ∀ x : Entry, (f x).tag = x.tag := fun x => congrArg Request.tag (hreq x)
  have hbook : u.book = s.book.map fun x => if x.tag == tag then f x else x := hb
  rcases occurrenceEnds_cases (s := u) tag with ⟨hf, h⟩ | ⟨e, hf, -, h⟩ | ⟨e, hf, -, h⟩ <;> rw [h]
  · refine .of_map _ hbook (hq ▸ .refl _) (fun x => ?_) (fun x hx => ?_) fun _ x hx hp => ?_
    · split
      · exact htag x
      · rfl
    · split
      · exact hstanding x hx
      · exact hx
    · rw [if_neg]
      · exact hp
      · intro ht
        have hmem : f x ∈ u.book := by
          rw [hbook, List.mem_map]
          exact ⟨x, hx, if_pos ht⟩
        have := List.find?_eq_none.mp hf (f x) hmem
        rw [htag] at this
        exact this ht
  · have hleft : (((u.removeEntry tag).offerNotice (e.reqEnd .done)).dequeue (.claim tag)).book = s.book.filter (·.tag != tag) := by
      simp only [State.dequeue_frame, State.offerNotice_frame, State.removeEntry, State.onBook_book, hbook]
      exact filter_map_tag htag _
    refine .of_leave _ hleft ?_ fun _ x _ _ hx f hf => ?_
    · rw [← hq]
      simp [State.dequeue]
    · have hxt : x.tag = tag := by simpa using hx
      rw [hxt]
      exact (mem_dequeue.mp hf).2
  · refine .of_map (fun x => if x.tag == tag then (f x).advanced u.params.lead else x) ?_ (hq ▸ .refl _) (fun x => ?_) (fun x hx => ?_)
      fun _ x _ hp => ?_
    · simp only [State.updateEntry, State.onBook_book, hbook, List.map_map]
      refine List.map_congr_left fun x _ => ?_
      by_cases hx : x.tag = tag <;> simp [hx, htag]
    · split
      · exact htag x
      · rfl
    · split
      · rfl
      · exact hx
    · split
      · exact .of_unplaced (by rw [Entry.advanced, hreq]; exact hp.1) nofun rfl
      · exact hp

/-! ## Commits -/

/-- A commit keeps the laws: a placement given is held, and a skipped occurrence ends (R25, R104). -/
theorem commit_keeps (hf : s.findEntry e.tag = some e) : s.KeepsRequests (s.commit e) := by
  have skip : ∀ outcome, s.KeepsRequests (((s.updateEntry e.tag Entry.skipped).offerNotice outcome).occurrenceEnds e.tag) := fun _ =>
    occurrenceEnds_keeps (f := Entry.skipped) (by simp) (by simp) (fun _ => rfl) fun _ => id
  have placed : ∀ (p : Placement) outcome, (e.request.inRange → e.holdsPlacement p) →
      s.KeepsRequests ((s.updateEntry e.tag fun x => x.placed p).offerNotice outcome) := by
    intro p _ hp
    have updated : s.KeepsRequests (s.updateEntry e.tag fun x => x.placed p) := by
      refine .of_update (fun _ => rfl) (fun _ _ => rfl) fun x hx hw => ?_
      rw [hf] at hx
      cases hx
      exact .of_placed hw.1 (.inl rfl) rfl (hp hw.1)
    exact updated.then_same
  unfold State.commit
  cases hd : s.decide e with
  | grant start len => exact placed ⟨_, _, false⟩ _ fun hr => decide_grant hr hd
  | clip start len => exact placed ⟨_, _, true⟩ _ fun hr => decide_clip hr hd
  | skipStrongerPeer => exact skip _
  | skipJoining => exact skip _

theorem commitLinks_keeps (n : Nat) : s.KeepsRequests (State.commitLinks tag n s) := by
  induction n generalizing s with
  | zero => exact .refl
  | succ n ih =>
    rw [State.commitLinks]
    cases hf : s.findEntry tag with
    | none => exact .refl
    | some e =>
      dsimp only
      split
      · exact (commit_keeps (by rw [findEntry_tag hf]; exact hf)).trans ih
      · exact .refl

theorem commitWhileDue_keeps (tag : Tag) : s.KeepsRequests (s.commitWhileDue tag) := by
  unfold State.commitWhileDue
  cases s.findEntry tag with
  | none => exact .refl
  | some e => exact commitLinks_keeps _

/-- An occurrence ends, and the commits that then fall due are made, after a change of its entry. -/
theorem endOccurrence_keeps {f : Entry → Entry} (hb : u.book = (s.updateEntry tag f).book) (hq : u.lc.queue = s.lc.queue)
    (hreq : ∀ x : Entry, (f x).request = x.request) (hstanding : ∀ x : Entry, x.standing = true → (f x).standing = true) :
    s.KeepsRequests (u.endOccurrence tag) :=
  (occurrenceEnds_keeps hb hq hreq hstanding).trans (commitWhileDue_keeps tag)

/-! ## The late test -/

/-- A blocking interval begins before the own interval ends (R81). -/
theorem blockingOf_starts {x : Activity} {own g : Interval} {c : ClaimEntry} (h : g ∈ s.blockingOf x own c) : g.1 < own.2 := by
  unfold State.blockingOf at h
  split at h
  · cases h
  · split at h
    · have hm := (List.mem_filter.mp h).2
      simp only [meets, Bool.and_eq_true, decide_eq_true_eq] at hm
      exact hm.2
    · cases h

/-- The cut point is the start of one of the intervals, and none starts before it (R109). -/
theorem cutPoint_spec (l : List Interval) : l = [] ∧ cutPoint l = none ∨
    ∃ a, cutPoint l = some a ∧ (∃ g ∈ l, g.1 = a) ∧ ∀ g ∈ l, a ≤ g.1 := by
  induction l with
  | nil => exact .inl ⟨rfl, rfl⟩
  | cons p l ih =>
    right
    unfold cutPoint
    rcases ih with ⟨rfl, h⟩ | ⟨a, h, ⟨g, hg, rfl⟩, hle⟩ <;> rw [h]
    · exact ⟨p.1, rfl, ⟨p, List.mem_cons_self, rfl⟩, by simp⟩
    · refine ⟨_, rfl, ?_, fun q hq => ?_⟩
      · rcases le_total p.1 g.1 with hpg | hpg
        · exact ⟨p, List.mem_cons_self, (min_eq_left hpg).symm⟩
        · exact ⟨g, List.mem_cons_of_mem p hg, (min_eq_right hpg).symm⟩
      · rcases List.mem_cons.mp hq with rfl | hq
        · exact min_le_left _ _
        · exact (min_le_right _ _).trans (hle q hq)

/-- A placement cut to a length that its entry keeps enough of is held (R110, R111). -/
theorem Entry.WellPlaced.cutTo {p : Placement} {left : Int} (h : e.WellPlaced) (hs : e.state = .committed ∨ e.state = .active)
    (hp : e.placement = some p) (hk : e.keepsEnough left = true) {len : Nat} (hleft : left ≤ len) (hlen : len ≤ p.length) :
    (e.cutTo len).WellPlaced := by
  obtain ⟨q, hq, hwindow, -⟩ := h.placement hs
  rw [hp] at hq
  cases hq
  refine .of_placed h.1 hs (show e.placement.map _ = some { p with length := len } by rw [hp]; rfl) ⟨?_, ?_⟩
  · change (p.start - e.windowStart).toNat + len ≤ e.request.claimWindow
    omega
  · change e.request.minDuration.getD e.request.duration ≤ len
    unfold Entry.keepsEnough at hk
    cases hm : e.request.minDuration with
    | none =>
      rw [hm] at hk
      cases hk
    | some m =>
      rw [hm] at hk
      have hml : (m : Int) ≤ left := by simpa using hk
      change m ≤ len
      omega

/-- A found entry is cut to a length that it keeps enough of. -/
theorem cutTo_keeps {p : Placement} {left : Int} {len : Nat} (hf : s.findEntry e.tag = some e) (hs : e.state = .committed ∨ e.state = .active)
    (hp : e.placement = some p) (hk : e.keepsEnough left = true) (hleft : left ≤ len) (hlen : len ≤ p.length) :
    s.KeepsRequests (s.updateEntry e.tag fun e => e.cutTo len) := by
  refine .of_update (fun _ => rfl) (fun _ => id) fun x hx hw => ?_
  rw [hf] at hx
  cases hx
  exact hw.cutTo hs hp hk hleft hlen

theorem lateCommitted_keeps {p : Placement} {a : Int} (hf : s.findEntry e.tag = some e) (hs : e.state = .committed) (hp : e.placement = some p)
    (ha : a < s.distance p.start + p.length) : s.KeepsRequests (s.lateCommitted e p a) := by
  unfold State.lateCommitted
  dsimp only
  split
  · rename_i hk
    exact .then_same (cutTo_keeps (len := (a - s.distance p.start).toNat) hf (.inl hs) hp hk (by omega) (by omega))
  · exact endOccurrence_keeps (f := Entry.retracted) (by simp) (by simp) (fun _ => rfl) fun _ => id

/-- An open window cut at a point that is not past keeps the law; one that ends at once ends its occurrence. -/
theorem lateActive_keeps {p : Placement} {a : Int} (hf : s.findEntry e.tag = some e) (hs : e.state = .active) (hp : e.placement = some p)
    (ha : a < s.distance p.start + p.length) : s.KeepsRequests (s.lateActive e p a) := by
  unfold State.lateActive
  dsimp only
  split
  · rename_i hk
    split
    · exact endOccurrence_keeps (f := fun e => e.cutTo (max a 0 - s.distance p.start).toNat) (by simp) (by simp) (fun _ => rfl) fun _ => id
    · exact .then_same (cutTo_keeps (len := (max a 0 - s.distance p.start).toNat) hf (.inr hs) hp hk (by omega) (by omega))
  · have overlapped : s.KeepsRequests (s.updateEntry e.tag Entry.overlapped) :=
      .of_update (fun _ => rfl) (fun _ => id) fun _ _ hw => hw.congr rfl rfl rfl rfl
    exact overlapped.then_same

theorem lateTestOne_keeps (c : ClaimEntry) (tag : Tag) : s.KeepsRequests (State.lateTestOne c s tag) := by
  unfold State.lateTestOne
  cases hf : s.findEntry tag with
  | none => exact .refl
  | some e =>
    cases hp : e.placement with
    | none => simp only [hp]; exact .refl
    | some p =>
      have hf' : s.findEntry e.tag = some e := by rwa [findEntry_tag hf]
      simp only [hp]
      rcases cutPoint_spec (s.blockingOf e.activity (s.remainingPart e p) c) with ⟨-, h⟩ | ⟨a, h, ⟨g, hg, hga⟩, -⟩ <;> rw [h]
      · exact .refl
      · have ha : a < s.distance p.start + p.length := hga ▸ blockingOf_starts hg
        cases hs : e.state
        case waiting => exact .refl
        case retiring => exact .refl
        case committed => exact lateCommitted_keeps hf' hs hp ha
        case active => exact lateActive_keeps hf' hs hp ha

theorem lateTest_keeps (c : ClaimEntry) : s.KeepsRequests (s.lateTest c) := by
  unfold State.lateTest
  generalize s.bookOrder.map Entry.tag = tags
  induction tags generalizing s with
  | nil => exact .refl
  | cons tag tags ih => exact (lateTestOne_keeps c tag).trans ih

end Sys2Proof.Machine
end

section
/-! O56 and O60: every command keeps the laws of the book, of the transmit queue and of the placements. -/

namespace Sys2Proof.Machine

open Sys2Proof

variable {s t u : State} {tag : Tag} {e : Entry}

/-! ## The transmit queue under the events of the line -/

@[simp] theorem State.endReception_queue (s : State) : s.endReception.lc.queue = s.lc.queue := rfl

@[simp] theorem State.dropReception_queue (s : State) : s.dropReception.lc.queue = s.lc.queue := rfl

@[simp] theorem State.stopContending_queue (s : State) : s.stopContending.lc.queue = s.lc.queue := rfl

@[simp] theorem State.followLine_queue (s : State) (line : List LineEvent) : (s.followLine line).lc.queue = s.lc.queue := by
  rw [show (s.followLine line).lc = _ from LineController.foldl_follow s.now s.lc line]

@[simp] theorem State.countGood_queue (s : State) : s.countGood.lc.queue = s.lc.queue := by
  unfold State.countGood
  split <;> simp

@[simp] theorem State.countBad_queue (s : State) : s.countBad.lc.queue = s.lc.queue := by
  unfold State.countBad
  dsimp only
  split <;> simp

@[simp] theorem State.takeStartMark_queue (s : State) : s.takeStartMark.lc.queue = s.lc.queue := by
  obtain ⟨-, -, -, -, hq⟩ := contend_line (s := s)
  unfold State.takeStartMark
  split
  · exact hq
  · rfl

@[simp] theorem State.reachIdle_queue (s : State) : s.reachIdle.lc.queue = s.lc.queue := by
  unfold State.reachIdle
  dsimp only
  split <;> simp

@[simp] theorem State.endStretch_queue (s : State) : s.endStretch.lc.queue = s.lc.queue := by
  unfold State.endStretch
  split <;> rfl

@[simp] theorem State.endStretch_book (s : State) : s.endStretch.book = s.book := by
  unfold State.endStretch
  split <;> rfl

/-! ## The records -/

/-- The answers of the SUBMIT checks, with no check failed (R15). -/
theorem submitRefusal_none_iff (q : Request) : s.submitRefusal q = none ↔ s.lc.ack = .noClear ∧ s.book.length < 16 ∧
    (∀ x ∈ s.book, x.tag ≠ q.tag) ∧ q.startOffset ≤ 4000000 ∧ spanTaken q.low q.high = true ∧ q.periodTaken = true := by
  have hfind : (s.findEntry q.tag).isSome = true ↔ ¬ ∀ x ∈ s.book, x.tag ≠ q.tag := by
    rw [Option.isSome_iff_ne_none, State.findEntry, ne_eq, List.find?_eq_none]
    simp
  unfold State.submitRefusal
  simp only [hfind, Config.bookSize]
  split_ifs <;> simp_all

theorem handleSubmit_refused {r : SubmitRecord} {reason : Reason} (hj : s.joined = true)
    (h : s.submitRefusal (takeSubmit r).value = some reason) : s.handleSubmit r = s.refuse kindSubmit reason r.tag := by
  unfold State.handleSubmit
  rcases whenJoined_cases (s := s) kindSubmit r.tag _ with ⟨-, e⟩ | ⟨hn, -⟩
  · rw [e]
    simp only [h]
  · rw [hj] at hn
    cases hn

theorem handleSubmit_admitted {r : SubmitRecord} (hj : s.joined = true) (h : s.submitRefusal (takeSubmit r).value = none) :
    s.handleSubmit r = s.enterBook (takeSubmit r).value (takeSubmit r).clamped := by
  unfold State.handleSubmit
  rcases whenJoined_cases (s := s) kindSubmit r.tag _ with ⟨-, e⟩ | ⟨hn, -⟩
  · rw [e]
    simp only [h]
  · rw [hj] at hn
    cases hn

/-- The fields of a SUBMIT that placement reads lie in their ranges once clamped (R14). -/
theorem takeSubmit_inRange (r : SubmitRecord) : (takeSubmit r).value.inRange := by
  have hd : 10 ≤ (takeSubmit r).value.duration := le_clampNat (by decide)
  refine ⟨hd, clampNat_le, Nat.le_of_lt_succ r.slack.isLt, fun m hm => ?_⟩
  have hm : (takeMinDuration (takeSubmit r).value.duration r.minDuration).value = some m := hm
  cases h : r.minDuration with
  | none =>
    rw [h] at hm
    cases hm
  | some n =>
    rw [h] at hm
    cases hm
    exact ⟨le_clampNat hd, clampNat_le⟩

/-- An admission puts one entry more into a book with room, under a tag that is new to it (R16, R20). -/
theorem enterBook_keeps {q : Request} (clamped : List Nat) (hq : q.inRange) (h : s.submitRefusal q = none) :
    s.KeepsRequests (s.enterBook q clamped) := by
  obtain ⟨-, hroom, hfresh, -⟩ := (submitRefusal_none_iff q).mp h
  have entered : ∀ reply, s.KeepsRequests ((s.pushNotice reply).onBook fun b => b ++ [s.newEntry q]) := fun reply => by
    have hb : ((s.pushNotice reply).onBook fun b => b ++ [s.newEntry q]).book = s.book ++ [s.newEntry q] := by simp
    refine ⟨fun hl => ?_, fun _ hf => ?_, fun _ hp => ?_⟩
    · rw [State.BookLaw, hb]
      refine ⟨by simpa using hroom, ?_⟩
      rw [List.map_append, List.map_singleton, List.nodup_append]
      refine ⟨hl.2, List.nodup_singleton _, fun a ha b hb => ?_⟩
      obtain ⟨x, hx, rfl⟩ := List.mem_map.mp ha
      rw [List.mem_singleton.mp hb]
      exact hfresh x hx
    · rw [queueLaw_iff] at hf ⊢
      rw [hb]
      have hlc : ((s.pushNotice reply).onBook fun b => b ++ [s.newEntry q]).lc.queue = s.lc.queue := by simp
      rw [hlc]
      exact hf.of_book fun x hx hs _ => ⟨x, List.mem_append_left _ hx, rfl, hs⟩
    · rw [placementLaw_iff] at hp ⊢
      rw [hb]
      intro x hx
      rcases List.mem_append.mp hx with hx | hx
      · exact hp x hx
      · rw [List.mem_singleton.mp hx]
        exact .of_unplaced hq nofun rfl
  exact ((entered _).trans (askClaim_keeps _)).trans (commitWhileDue_keeps _)

/-- A cancelled entry leaves with its CLAIM, or retires without one and asks for its WITHDRAW (R30, R31, R62). -/
theorem cancelEntry_keeps (hf : s.findEntry e.tag = some e) : s.KeepsRequests (s.cancelEntry e) := by
  unfold State.cancelEntry
  dsimp only
  split
  · let retired := (((s.offerNotice (e.reqEnd .cancelled)).updateEntry e.tag Entry.retire).dequeue (.claim e.tag)).dequeue (.withdraw e.tag)
    have hbook : retired.book = s.book.map fun x => if x.tag == e.tag then x.retire else x := by simp [retired, State.updateEntry]
    have hframe : ∀ f, f ∈ retired.lc.queue ↔ f ∈ s.lc.queue ∧ f.ref ≠ .claim e.tag ∧ f.ref ≠ .withdraw e.tag := fun f => by
      rw [mem_dequeue, mem_dequeue, and_assoc]
      simp
    have hqueue : retired.lc.queue.Sublist s.lc.queue := by
      have : (s.offerNotice (e.reqEnd .cancelled)).lc.queue = s.lc.queue := by simp
      exact this ▸ List.filter_sublist.trans List.filter_sublist
    have hkeeps : s.KeepsRequests retired := by
      have tag_eq : ∀ x : Entry, (if x.tag == e.tag then x.retire else x).tag = x.tag := fun x => by split <;> rfl
      refine ⟨fun hl => ?_, fun _ hq => ?_, fun _ hp => ?_⟩
      · have hmap : (s.book.map fun x => if x.tag == e.tag then x.retire else x).map Entry.tag = s.book.map Entry.tag := by
          rw [List.map_map]
          exact List.map_congr_left fun x _ => tag_eq x
        rw [State.BookLaw, hbook, hmap, List.length_map]
        exact hl
      · rw [queueLaw_iff] at hq ⊢
        rw [hbook]
        refine (hq.sublist hqueue).of_book fun x hx hs ⟨f, hm, hr⟩ => ?_
        have hne : x.tag ≠ e.tag := fun hx => ((hframe f).mp hm).2.1 (hx ▸ hr)
        exact ⟨x, List.mem_map.mpr ⟨x, hx, by simp [hne]⟩, rfl, hs⟩
      · rw [placementLaw_iff] at hp ⊢
        rw [hbook]
        intro x hx
        obtain ⟨y, hy, rfl⟩ := List.mem_map.mp hx
        split
        · exact .of_unplaced (hp y hy).1 nofun rfl
        · exact hp y hy
    refine hkeeps.trans (enqueue_keeps fun _ _ => ⟨fun f hm ht => ?_, .inr fun t ht => ?_, nofun⟩)
    · obtain ⟨-, hc, hw⟩ := (hframe f).mp hm
      exact (FrameRef.tagOf_eq_some.mp ht).elim hc hw
    · cases ht
      rw [hbook]
      exact ⟨e.retire, List.mem_map.mpr ⟨e, findEntry_mem hf, by simp⟩, rfl⟩
  · refine .of_leave (fun x => x.tag != e.tag) (by simp [State.removeEntry]) ?_ fun _ x _ _ hx f hm => ?_
    · simp [State.dequeue]
    · have hxt : x.tag = e.tag := by simpa using hx
      rw [hxt]
      simp only [State.removeEntry_frame] at hm
      exact (mem_dequeue.mp hm).2

/-- A CSn rise keeps the laws when the handling of its record does. -/
theorem takeRecord_keeps {whole : Nat} {handle : State → State} (h : ∀ b : State, b.KeepsRequests (handle b)) :
    s.KeepsRequests (s.takeRecord whole handle) := by
  have rise : s.KeepsRequests (s.riseCsn whole) := .of_same
  rcases takeRecord_cases (s := s) whole handle with e | e <;> rw [e]
  · exact (rise.trans (h _)).settle
  · exact rise.settle

theorem handleSubmit_keeps (r : SubmitRecord) : s.KeepsRequests (s.handleSubmit r) := by
  cases hj : s.joined with
  | true =>
    cases h : s.submitRefusal (takeSubmit r).value with
    | some reason =>
      rw [handleSubmit_refused hj h]
      exact .of_same
    | none =>
      rw [handleSubmit_admitted hj h]
      exact enterBook_keeps _ (takeSubmit_inRange r) h
  | false =>
    rcases handleSubmit_cases (s := s) r with ⟨reason, h⟩ | ⟨hn, -⟩
    · rw [h]
      exact .of_same
    · rw [hj] at hn
      cases hn

theorem handleCancel_keeps (tag : Tag) : s.KeepsRequests (s.handleCancel tag) := by
  rcases handleCancel_cases (s := s) tag with ⟨_, h⟩ | ⟨-, e, hf, -, h⟩ <;> rw [h]
  · exact .of_same
  · have told : s.KeepsRequests (s.reply kindCancel .accepted .none tag []) := .of_same
    refine told.trans (cancelEntry_keeps ?_)
    rw [findEntry_congr (s := s) (by simp), findEntry_tag hf]
    exact hf

/-! ## The frames received -/

theorem catchUp_keeps : s.KeepsRequests s.catchUp := askClaims_keeps _

theorem hear_keeps (st : Station) (latch : Time) (timeout : PeerRecord → Nat) : s.KeepsRequests (s.hear st latch timeout) := by
  unfold State.hear
  split
  · exact .refl
  · rename_i r _
    have heard : s.KeepsRequests (s.updatePeer st fun r => r.heard latch (timeout r)) := .of_same
    dsimp only
    split
    · exact heard.trans catchUp_keeps
    · exact heard.trans catchUp_keeps
    · exact heard.trans .of_same
    · exact heard

theorem restartCheck_keeps (st : Station) (b : BeaconBody) : s.KeepsRequests (s.restartCheck st b) := by
  unfold State.restartCheck
  split
  · exact .refl
  · split
    · have dropped : s.KeepsRequests ((s.updatePeer st PeerRecord.restarted).dropClaims st) := .of_same
      exact dropped.trans catchUp_keeps
    · exact .refl

theorem takeBeacon_keeps (st : Station) (b : BeaconBody) (latch : Time) : s.KeepsRequests (s.takeBeacon st b latch) := by
  unfold State.takeBeacon
  exact ((hear_keeps st latch fun _ => beaconEpoch b).trans (restartCheck_keeps st b)).then_same

theorem takeClaimFrame_keeps (st : Station) (b : ClaimBody) (latch : Time) : s.KeepsRequests (s.takeClaimFrame st b latch) := by
  unfold State.takeClaimFrame
  split
  · exact .refl
  · rename_i c _
    have put : s.KeepsRequests (s.putClaim (s.withDeadlines c)) := .of_same
    exact (put.trans (lateTest_keeps (s.withDeadlines c))).then_same

theorem takeFrame_keeps {st : Station} {handle : Time → State} (h : ∀ latch, s.KeepsRequests (handle latch)) :
    s.KeepsRequests (s.takeFrame st handle) := by
  rcases takeFrame_cases (s := s) st handle with e | e | ⟨latch, e⟩ <;> rw [e]
  · exact .refl
  · exact .settle .of_same
  · exact .settle (h latch).then_same

/-! ## The own frames -/

/-- A RETIRING entry leaves at its WITHDRAW; no CLAIM is queued for it (R33). -/
theorem endRetirement_keeps (tag : Tag) : s.KeepsRequests (s.endRetirement tag) := by
  unfold State.endRetirement
  split
  · rename_i e hf
    split
    · exact .refl
    · rename_i hs
      refine .of_leave (fun x => x.tag != tag) rfl (.refl _) fun hl x hx hxs hxt => ?_
      have hfx := findEntry_of_mem hl hx
      have htag : x.tag = tag := by simpa using hxt
      rw [htag, hf] at hfx
      cases hfx
      exact absurd hxs hs
  · exact .refl

theorem reportBeacon_keeps (latch : Time) (fresh : Bool) : s.KeepsRequests (s.reportBeacon latch fresh) := by
  unfold State.reportBeacon
  dsimp only
  split
  · exact .trans .of_same releaseHeldClaims_keeps
  · exact .of_same

theorem handReport_keeps (latch : Time) (body : FrameBody) : s.KeepsRequests (s.handReport latch body) := by
  cases body with
  | beacon b => exact reportBeacon_keeps latch b.fresh
  | claim _ c => exact .of_update (fun _ => rfl) (fun _ => id) fun _ _ hw => hw.congr rfl rfl rfl rfl
  | withdraw t => exact endRetirement_keeps t

theorem reportStartMark_keeps : s.KeepsRequests s.reportStartMark := by
  rcases reportStartMark_cases (s := s) with e | ⟨c, own, body, -, e⟩ <;> rw [e]
  · exact .refl
  · have sent : s.KeepsRequests ((s.dequeue c.ref).onLc fun l => { l with contending := none, inTransmission := some own }) :=
      .of_sublist rfl List.filter_sublist
    exact sent.trans (handReport_keeps _ _)

theorem abandonFrame_keeps : s.KeepsRequests s.abandonFrame := by
  unfold State.abandonFrame
  split
  · exact .refl
  · rename_i f _
    have stopped : s.KeepsRequests (s.onLc fun l => { l with inTransmission := none, driver := .released, latch := none }) := .of_same
    exact stopped.trans (returnFrame_keeps _)

theorem takeDriveFault_keeps : s.KeepsRequests s.takeDriveFault := by
  unfold State.takeDriveFault
  have stopped : s.KeepsRequests (if s.lc.contending.isSome then s.stopContending else s.abandonFrame) := by
    split
    · exact .of_same
    · exact abandonFrame_keeps
  exact .settle stopped.then_same

/-! ## The part as a whole -/

/-- At a line clear the queue is emptied, and in JOINING and RUNNING a FRESH beacon is asked for (R36, R156, R164). -/
theorem lineClear_keeps : s.KeepsRequests s.lineClear := by
  let cleared := ((s.onCt fun _ => []).onPr fun p => { p with records := p.records.map PeerRecord.cleared }).onLc LineController.atClear
  have hcleared : s.KeepsRequests cleared := .of_sublist rfl (List.nil_sublist _)
  cases hj : s.joined with
  | false =>
    have h : s.lineClear = cleared.offerNotice (.lineCleared (if s.lc.clearDrive.isSome then .self else .line) s.now) := by
      simp [State.lineClear, hj, cleared]
    rw [h]
    exact hcleared.then_same
  | true =>
    have held : s.KeepsRequests (cleared.onBook bookAtClear) := by
      have standing : s.KeepsRequests (cleared.onBook (List.filter Entry.standing)) :=
        .of_leave Entry.standing rfl (List.nil_sublist _) fun _ _ _ _ _ f hf => by cases hf
      refine standing.trans (.of_map (fun e => { e with held := true }) rfl (.refl _) (fun _ => rfl) (fun _ => id) fun _ x _ hw => ?_)
      exact hw.congr rfl rfl rfl rfl
    have h : s.lineClear = ((cleared.onBook bookAtClear).enterJoining.offerNotice
        (.lineCleared (if s.lc.clearDrive.isSome then .self else .line) s.now)).onLc
        fun l => { l with ack := .awaiting (later s.now Config.acknowledgeWait) } := by
      simp [State.lineClear, hj, cleared]
    rw [h]
    have entered : s.KeepsRequests (cleared.onBook bookAtClear).enterJoining := .trans held.then_same askBeacon_keeps
    exact entered.then_same

theorem takeBoundary_keeps : s.KeepsRequests s.takeBoundary := by
  have closed : s.KeepsRequests s.closeEpoch := .of_same rfl rfl
  have repeated : s.KeepsRequests s.closeEpoch.askBeacon.repeatClaims := (closed.trans askBeacon_keeps).trans (askClaims_keeps _)
  rw [takeBoundary_eq]
  exact repeated.then_same

theorem acceptSetup_keeps (act rq : Bool) (f : SetupFields) : s.KeepsRequests (s.acceptSetup act rq f) := by
  unfold State.acceptSetup State.enterJoining
  exact .trans .of_same askBeacon_keeps

theorem judgeWindow_keeps (v : Verdict) : s.KeepsRequests (s.judgeWindow v) := by
  have suspect : s.KeepsRequests s.enterSuspect := by
    unfold State.enterSuspect
    exact .of_same
  have leave : s.KeepsRequests s.leaveSuspect := by
    unfold State.leaveSuspect
    exact .of_same
  unfold State.judgeWindow
  split
  · exact .of_atRest enterHalted_atRest
  · split
    · exact .of_same
    · exact leave
  · exact suspect
  · exact .of_same
  all_goals exact .refl

theorem advance_keeps (rc : Nat) (act rq : Bool) (line : List LineEvent) : s.KeepsRequests (s.advance rc act rq line) := by
  unfold State.advance
  exact .settle .of_same

/-- A window opens at the placed start of a COMMITTED entry (R26, R119). -/
theorem takePlacedStart_keeps (tag : Tag) : s.KeepsRequests (s.takePlacedStart tag) := by
  unfold State.takePlacedStart
  cases hf : s.findEntry tag with
  | none => exact .refl
  | some e =>
    dsimp only
    split
    · rename_i hd
      simp only [State.startDue, Bool.and_eq_true, beq_iff_eq] at hd
      obtain ⟨hs, -⟩ := hd
      refine .settle (.of_update (fun _ => rfl) (fun _ _ => rfl) fun x hx hw => ?_)
      rw [hf] at hx
      cases hx
      obtain ⟨p, hp, hh⟩ := hw.placement (.inl hs)
      exact .of_placed hw.1 (.inr rfl) hp hh
    · exact .refl

/-! ## Every command -/

theorem exec_keepsRequests {c : Instr} (h : exec c s = .next t) : s.KeepsRequests t := by
  have comes : ∀ {enabled effect}, occurs enabled effect s = .next t → (enabled = true → s.KeepsRequests (effect s)) → s.KeepsRequests t :=
    fun h comes => occurs_keeps .refl comes h
  cases c with
  | resetAssert | fbChangeDuringReset => exact comes h fun _ => .of_same rfl rfl
  | resetRelease sa => exact comes h fun _ => .of_atRest (releaseReset_atRest sa)
  | microsecondAdvance => exact comes h fun _ => advance_keeps _ _ _ _
  | monitorWindowClose edges =>
    have closed : s.KeepsRequests (s.onTb (Timebase.closeWindow edges)) := .of_same
    exact comes h fun _ => .settle (closed.trans (judgeWindow_keeps _))
  | epochBoundary =>
    unfold exec execEpochBoundary at h
    exact comes h fun _ => takeBoundary_keeps.settle
  | commitPoint =>
    refine comes h fun _ => ?_
    rcases takeCommitPoint_cases (s := s) with e | ⟨_, -, e⟩ <;> rw [e]
    · exact .refl
    · exact (commitWhileDue_keeps _).settle
  | placedStart tag => exact comes h fun _ => takePlacedStart_keeps tag
  | placedEnd tag =>
    refine comes h fun _ => ?_
    rcases takePlacedEnd_cases (s := s) tag with e | ⟨_, -, e⟩ <;> rw [e]
    · exact .refl
    · refine .settle (endOccurrence_keeps (f := id) ?_ rfl (fun _ => rfl) fun _ => id)
      simp [State.updateEntry]
  | actLevelTaken | countDeadline | rqRise | rqFall | fastEnd | joiningEnd | acknowledgeDeadline | lineStuckDetected | ownNumberFrame =>
    exact comes h fun _ => .settle .of_same
  | quietDeadline st =>
    refine comes h fun _ => ?_
    rcases takeQuietDeadline_cases (s := s) st with e | e <;> rw [e]
    · exact .refl
    · exact .settle .of_same
  | lostDeadline st =>
    refine comes h fun _ => ?_
    rcases takeLostDeadline_cases (s := s) st with e | e <;> rw [e]
    · exact .refl
    · exact .settle .of_same
  | leaseDeadline st tag =>
    refine comes h fun _ => ?_
    rcases takeLeaseDeadline_cases (s := s) st tag with e | e <;> rw [e]
    · exact .refl
    · exact .of_same
  | expiryPoint st tag =>
    refine comes h fun _ => ?_
    rcases takeExpiryPoint_cases (s := s) st tag with e | e <;> rw [e]
    · exact .refl
    · exact .of_same
  | lineIdle | startMark | arbitrationLost | dominantStretchEnd | csnFall => exact comes h fun _ => .of_same
  | clearDriveEnd => exact comes h fun _ => .of_same rfl rfl
  | ownStartMarkReported => exact comes h fun _ => reportStartMark_keeps
  | frameSent =>
    refine comes h fun _ => ?_
    rcases takeFrameSent_cases (s := s) with ⟨-, e⟩ | ⟨_, _, -, e⟩ <;> rw [e]
    · exact .refl
    · exact .of_same
  | readbackMismatch => exact comes h fun _ => abandonFrame_keeps
  | driveFault => exact comes h fun _ => takeDriveFault_keeps
  | beaconReceived st b =>
    unfold exec execBeaconReceived at h
    exact comes h fun _ => takeFrame_keeps fun _ => takeBeacon_keeps st b _
  | claimReceived st _ b => exact comes h fun _ => takeFrame_keeps fun latch => (hear_keeps st latch _).trans (takeClaimFrame_keeps st b latch)
  | withdrawReceived st tag => exact comes h fun _ => takeFrame_keeps fun latch => (hear_keeps st latch s.timeoutEpoch).then_same
  | badFrame line =>
    unfold exec execBadFrame at h
    exact comes h fun _ => .settle .of_same
  | lineClearDetected =>
    unfold exec execLineClearDetected at h
    exact comes h fun _ => lineClear_keeps.settle
  | transactionEnd whole r =>
    refine comes h fun _ => takeRecord_keeps fun b => ?_
    rcases answerPort_cases (s := b) r with e | ⟨_, _, e⟩ <;> rw [e]
    · exact .refl
    · exact .of_same
  | setup _ act rq r =>
    refine comes h fun _ => takeRecord_keeps fun b => ?_
    rcases handleSetup_cases (s := b) act rq r with ⟨-, _, e⟩ | ⟨-, e⟩ <;> rw [e]
    · exact .of_same
    · have told : b.KeepsRequests (b.accept kindSetup (takeSetup r).clamped) := .of_same
      exact told.trans (acceptSetup_keeps act rq _)
  | submit _ r => exact comes h fun _ => takeRecord_keeps fun b => handleSubmit_keeps r
  | cancel _ tag => exact comes h fun _ => takeRecord_keeps fun b => handleCancel_keeps tag
  | profileSelect _ code =>
    refine comes h fun _ => takeRecord_keeps fun b => ?_
    rcases handleProfileSelect_cases (s := b) code with ⟨_, e⟩ | ⟨-, e⟩ <;> rw [e] <;> exact .of_same
  | fastSpan _ r =>
    refine comes h fun _ => takeRecord_keeps fun b => ?_
    rcases handleFastSpan_cases (s := b) r with ⟨_, e⟩ | ⟨-, e⟩ <;> rw [e] <;> exact .of_same
  | clearLine _ =>
    refine comes h fun _ => takeRecord_keeps fun b => ?_
    rcases handleClearLine_cases (s := b) with ⟨_, e⟩ | ⟨-, e⟩ <;> rw [e]
    · exact .of_same
    · have told : b.KeepsRequests (b.accept kindClearLine []) := .of_same
      exact told.trans (.of_sublist rfl List.filter_sublist)
  | clearAck _ =>
    refine comes h fun _ => takeRecord_keeps fun b => ?_
    rcases handleClearAck_cases (s := b) with e | e | e <;> rw [e] <;> exact .of_same
  | alarmClear _ flags =>
    refine comes h fun _ => takeRecord_keeps fun b => ?_
    rcases handleAlarmClear_cases (s := b) flags with e | e <;> rw [e] <;> exact .of_same
  | meterRead _ =>
    refine comes h fun _ => takeRecord_keeps fun b => ?_
    rcases handleMeterRead_cases (s := b) with ⟨_, e⟩ | ⟨-, e⟩ <;> rw [e] <;> exact .of_same
  | statusRead _ =>
    refine comes h fun _ => takeRecord_keeps fun b => ?_
    unfold State.handleStatusRead
    exact .of_same
  | timeRead _ =>
    refine comes h fun _ => takeRecord_keeps fun b => ?_
    rcases handleTimeRead_cases (s := b) with e | e <;> rw [e] <;> exact .of_same

/-- So does every step: the queue of commands is no part of the laws. -/
theorem step_keepsRequests (h : step s = .next t) : s.KeepsRequests t := by
  unfold step at h
  split at h
  · cases h
    exact .refl
  · rename_i rest _
    have taken : s.KeepsRequests { s with pending := rest } := .of_same rfl rfl
    exact taken.trans (exec_keepsRequests h)

/-- Settles O56: both laws are parts of what every step keeps. -/
theorem bookAndQueueLawsKept : Obligations.BookAndQueueLawsKept :=
  ⟨fun _ _ h => (step_keepsRequests h).book, fun _ _ h hq hb => (step_keepsRequests h).queue hb hq⟩

/-- Settles O60: so is the law of the placements, over a book with distinct tags. -/
theorem placementLawKept : Obligations.PlacementLawKept := fun _ _ h hp hb => (step_keepsRequests h).placement hb hp

end Sys2Proof.Machine
end

section
/-! O28, O27 and O31: the chain of immediate commits, the commit point, and the start and end of a window. -/

namespace Sys2Proof.Machine

open Sys2Proof

variable {s t u : State} {tag : Tag} {e : Entry} {outcome : CommitOutcome}

/-! ## A change of one entry -/

/-- Where a tag is that of one entry alone, a change of the entries with the tag changes that entry. -/
theorem updateEntry_unique (f : Entry → Entry) (h : ∀ x ∈ s.book, x.tag = tag → x = e) :
    s.updateEntry tag f = { s with book := s.book.map fun x => if x.tag = tag then f e else x } := by
  rw [← map_tag_unique f h]
  rfl

/-- A notice offered after a change of the book is offered as before it. -/
theorem offerNotice_book (book : List Entry) (n : Notice) :
    State.offerNotice { s with book := book } n = { s.offerNotice n with book := book } :=
  offerNotice_onBook (fun _ => book) n

/-! ## The end of an occurrence -/

/-- The occurrence held is the last of a SINGLE request, and of a PERIODIC one by its count (R28). -/
theorem onLast_iff : e.onLast = true ↔ e.request.period = none ∨ e.request.count ≠ 0 ∧ e.request.count ≤ e.index.toNat + 1 := by
  unfold Entry.onLast
  cases e.request.period <;> simp

theorem onLast_of_earlier {p : Nat} (hp : e.request.period = some p) (h : e.request.count = 0 ∨ e.index.toNat + 1 < e.request.count) :
    e.onLast = false := by
  rw [Bool.eq_false_iff, ne_eq, onLast_iff, hp]
  simp only [reduceCtorEq, false_or]
  omega

theorem period_of_earlier (h : e.onLast = false) : ∃ p, e.request.period = some p := by
  cases hp : e.request.period with
  | none => simp [Entry.onLast, hp] at h
  | some p => exact ⟨p, rfl⟩

/-- The last occurrence ends: the entry leaves with REQ_END DONE and its queued CLAIM (R28, R35). -/
theorem occurrenceEnds_last (hf : s.findEntry tag = some e) (hl : e.onLast = true) : s.occurrenceEnds tag =
    { s.offerNotice (.reqEnd tag .done e.stage (e.index + 1) e.counters) with
      book := s.book.filter (·.tag ≠ tag)
      lc := { s.lc with queue := s.lc.queue.filter (·.ref ≠ .claim tag) } } := by
  have hbook : (s.book.filter fun x => x.tag != tag) = s.book.filter (·.tag ≠ tag) :=
    List.filter_congr fun x _ => by rw [decide_not]; rfl
  have hqueue : (s.lc.queue.filter fun f => f.ref != .claim tag) = s.lc.queue.filter (·.ref ≠ .claim tag) :=
    List.filter_congr fun x _ => by rw [decide_not]; rfl
  have he : e.reqEnd .done = .reqEnd tag .done e.stage (e.index + 1) e.counters := by rw [← findEntry_tag hf]; rfl
  unfold State.occurrenceEnds
  rw [hf]
  simp only [hl, if_true, he]
  rw [State.removeEntry, offerNotice_onBook, ← hbook, ← hqueue]
  simp [State.dequeue, State.onLc]

/-- An earlier occurrence ends: the entry moves on to its next one (R28). -/
theorem occurrenceEnds_earlier (hf : s.findEntry tag = some e) (hl : e.onLast = false) :
    s.occurrenceEnds tag = s.updateEntry tag fun e => e.advanced s.params.lead := by
  unfold State.occurrenceEnds
  rw [hf]
  simp [hl]

/-- No entry is found under the tag of one that has left. -/
theorem occurrenceEnds_last_found (hf : s.findEntry tag = some e) (hl : e.onLast = true) : (s.occurrenceEnds tag).findEntry tag = none := by
  rw [occurrenceEnds_last hf hl, State.findEntry, List.find?_eq_none]
  intro x hx
  simpa using (List.mem_filter.mp hx).2

theorem occurrenceEnds_earlier_found (hf : s.findEntry tag = some e) (hl : e.onLast = false) :
    (s.occurrenceEnds tag).findEntry tag = some (e.advanced s.params.lead) := by
  rw [occurrenceEnds_earlier hf hl]
  exact findEntry_updateEntry _ (fun _ => rfl) hf

/-! ## One commit -/

/-- The decision skips the occurrence, and OCCURRENCE reports it so (R103, R105). -/
def Decision.skips (d : Decision) (outcome : CommitOutcome) : Prop :=
  d = .skipStrongerPeer ∧ outcome = .skipStrongerPeer ∨ d = .skipJoining ∧ outcome = .skipJoining

/-- The state in which a skipped occurrence ends: its skip is counted and reported (R105). -/
def State.skipTold (s : State) (e : Entry) (outcome : CommitOutcome) : State :=
  (s.updateEntry e.tag Entry.skipped).offerNotice (.occurrence e.tag e.index outcome e.windowStart 0 s.au.hold)

theorem commit_skips (h : (s.decide e).skips outcome) : s.commit e = (s.skipTold e outcome).occurrenceEnds e.tag := by
  unfold State.commit
  rcases h with ⟨hd, rfl⟩ | ⟨hd, rfl⟩ <;> rw [hd] <;> rfl

theorem skipTold_found (hf : s.findEntry e.tag = some e) : (s.skipTold e outcome).findEntry e.tag = some e.skipped := by
  rw [State.skipTold, findEntry_congr (s := s.updateEntry e.tag Entry.skipped) (by simp)]
  exact findEntry_updateEntry _ (fun _ => rfl) hf

theorem skipTold_params : (s.skipTold e outcome).params = s.params := by simp [State.skipTold]

theorem commit_grant {start : Int} {len : Nat} (hd : s.decide e = .grant start len) : s.commit e =
    (s.updateEntry e.tag fun x => x.placed ⟨s.timeAt start, len, false⟩).offerNotice
      (.occurrence e.tag e.index .grant (s.timeAt start) len s.au.hold) := by
  rw [State.commit, hd]
  rfl

theorem commit_clip {start : Int} {len : Nat} (hd : s.decide e = .clip start len) : s.commit e =
    (s.updateEntry e.tag fun x => x.placed ⟨s.timeAt start, len, true⟩).offerNotice
      (.occurrence e.tag e.index .clip (s.timeAt start) len s.au.hold) := by
  rw [State.commit, hd]
  rfl

/-- After a placement is given the entry found is COMMITTED, so that no commit of it is due. -/
theorem commit_placed_found {start : Int} {len : Nat} (hf : s.findEntry e.tag = some e)
    (hd : s.decide e = .grant start len ∨ s.decide e = .clip start len) :
    ∀ x, (s.commit e).findEntry e.tag = some x → (s.commit e).commitDue x = false := by
  have placed : ∀ p n x, ((s.updateEntry e.tag fun x => x.placed p).offerNotice n).findEntry e.tag = some x → x.state = .committed := by
    intro p n x hx
    rw [findEntry_congr (s := s.updateEntry e.tag fun x => x.placed p) (by simp),
      findEntry_updateEntry (fun x => x.placed p) (fun _ => rfl) hf] at hx
    cases hx
    rfl
  have committed : ∀ x, (s.commit e).findEntry e.tag = some x → x.state = .committed := by
    rcases hd with hd | hd
    · rw [commit_grant hd]
      exact placed _ _
    · rw [commit_clip hd]
      exact placed _ _
  intro x hx
  simp [State.commitDue, committed x hx]

theorem commit_skips_last_found (hf : s.findEntry e.tag = some e) (h : (s.decide e).skips outcome) (hl : e.onLast = true) :
    (s.commit e).findEntry e.tag = none := by
  rw [commit_skips h]
  exact occurrenceEnds_last_found (skipTold_found hf) hl

theorem commit_skips_earlier_found (hf : s.findEntry e.tag = some e) (h : (s.decide e).skips outcome) (hl : e.onLast = false) :
    (s.commit e).findEntry e.tag = some (e.skipped.advanced s.params.lead) := by
  rw [commit_skips h, ← skipTold_params (e := e) (outcome := outcome)]
  exact occurrenceEnds_earlier_found (skipTold_found hf) hl

/-- No commit is due under a tag that no entry carries. -/
theorem no_commit_of_none (h : s.findEntry tag = none) (x : Entry) (hx : s.findEntry tag = some x) : s.commitDue x = false := by
  rw [h] at hx
  cases hx

/-- No commit is due under a tag whose entry has none due. -/
theorem no_commit_of_found (hf : s.findEntry tag = some e) (hd : s.commitDue e = false) (x : Entry) (hx : s.findEntry tag = some x) :
    s.commitDue x = false := by
  rw [hf] at hx
  cases hx
  exact hd

/-- The entry found after a commit: one with no commit due, or the entry moved on past a skipped occurrence (R25, R28). -/
theorem commit_found (hf : s.findEntry e.tag = some e) : (∀ x, (s.commit e).findEntry e.tag = some x → (s.commit e).commitDue x = false) ∨
    e.onLast = false ∧ (s.commit e).findEntry e.tag = some (e.skipped.advanced s.params.lead) := by
  have skip : ∀ outcome, (s.decide e).skips outcome →
      (∀ x, (s.commit e).findEntry e.tag = some x → (s.commit e).commitDue x = false) ∨
        e.onLast = false ∧ (s.commit e).findEntry e.tag = some (e.skipped.advanced s.params.lead) := by
    intro outcome h
    by_cases hl : e.onLast = true
    · exact .inl (no_commit_of_none (commit_skips_last_found hf h hl))
    · have hl : e.onLast = false := by simpa using hl
      exact .inr ⟨hl, commit_skips_earlier_found hf h hl⟩
  cases hd : s.decide e with
  | grant start len => exact .inl (commit_placed_found hf (.inl hd))
  | clip start len => exact .inl (commit_placed_found hf (.inr hd))
  | skipStrongerPeer => exact skip _ (.inl ⟨hd, rfl⟩)
  | skipJoining => exact skip _ (.inr ⟨hd, rfl⟩)

/-! ## The chain of immediate commits -/

/-- A commit is due for a WAITING entry whose commit point is not in the future (R2). -/
theorem commitDue_iff : s.commitDue e = true ↔ e.state = .waiting ∧ s.distance e.commitPoint ≤ 0 := by
  simp [State.commitDue, State.due]

theorem commitDue_false_iff : s.commitDue e = false ↔ e.state ≠ .waiting ∨ 0 < s.distance e.commitPoint := by
  rw [Bool.eq_false_iff, ne_eq, commitDue_iff, not_and_or, not_le]

/-- A window start whose commit point is due lies no further ahead than L (R2, R23). -/
theorem distance_le_of_due {w : Time} {lead : Nat} (hl : lead ≤ 20000) (h : s.distance (w - BitVec.ofNat 32 lead) ≤ 0) :
    s.distance w ≤ lead := by
  have he : w - BitVec.ofNat 32 lead - s.now = (w - s.now) - BitVec.ofNat 32 lead := by ring
  rw [State.distance, signedDistance, he] at h
  rw [State.distance, signedDistance]
  generalize w - s.now = d at *
  rw [BitVec.toInt_eq_toNat_cond] at h ⊢
  rw [BitVec.toNat_sub, BitVec.toNat_ofNat] at h
  omega

/-- A window start moved on by a period lies a period further ahead, where the first is not far ahead (R2, R28). -/
theorem distance_later {w : Time} {p : Nat} (hp : p ≤ 1000000) (h : s.distance w ≤ 20000) : s.distance (later w p) = s.distance w + p := by
  have he : later w p - s.now = (w - s.now) + BitVec.ofNat 32 p := by
    rw [later]
    ring
  rw [State.distance, signedDistance] at h
  rw [State.distance, State.distance, signedDistance, signedDistance, he]
  generalize w - s.now = d at *
  rw [BitVec.toInt_eq_toNat_cond] at h
  rw [BitVec.toInt_eq_toNat_cond, BitVec.toInt_eq_toNat_cond, BitVec.toNat_add, BitVec.toNat_ofNat]
  omega

/-- An entry as the chain of commits meets it: its commit point stands L before its window start, and a period lies in its range (R14, R23). -/
structure State.Chains (s : State) (e : Entry) : Prop where
  lead : s.params.lead ≤ 20000
  point : e.commitPoint = e.windowStart - BitVec.ofNat 32 s.params.lead
  period : ∀ p, e.request.period = some p → 100 ≤ p ∧ p ≤ 1000000

/-- The entry moved on past a skipped occurrence is one as the chain meets it. -/
theorem State.Chains.next (h : s.Chains e) : (s.commit e).Chains (e.skipped.advanced s.params.lead) := by
  have hp : (s.commit e).params = s.params := by simp
  exact ⟨hp ▸ h.lead, by rw [hp]; rfl, h.period⟩

theorem linkBound_pos : 1 ≤ s.linkBound e := Nat.succ_le_succ (Nat.zero_le _)

/-- A link that makes a further one due leaves a chain one link shorter (notes/assumptions/19). -/
theorem linkBound_next (h : s.Chains e) (hl : e.onLast = false) (hd : s.commitDue e = true)
    (hn : (s.commit e).commitDue (e.skipped.advanced s.params.lead) = true) :
    (s.commit e).linkBound (e.skipped.advanced s.params.lead) + 1 ≤ s.linkBound e := by
  obtain ⟨p, hp⟩ := period_of_earlier hl
  obtain ⟨hlow, hhigh⟩ := h.period p hp
  have hdist : (s.commit e).distance = s.distance := distance_congr (by simp)
  have hpar : (s.commit e).params = s.params := by simp
  have hstart : (e.skipped.advanced s.params.lead).windowStart = later e.windowStart p := by
    change later e.windowStart (e.request.period.getD 0) = _
    rw [hp]
    rfl
  have hw : s.distance e.windowStart ≤ s.params.lead :=
    distance_le_of_due h.lead (h.point ▸ (commitDue_iff.mp hd).2)
  have hlater := distance_later (s := s) (w := e.windowStart) hhigh (hw.trans (by exact_mod_cast h.lead))
  have hnext : s.distance e.windowStart + p ≤ s.params.lead := by
    rw [← hlater, ← hstart, ← hdist]
    have hpoint := (commitDue_iff.mp hn).2
    rw [h.next.point] at hpoint
    exact hpar ▸ distance_le_of_due h.next.lead hpoint
  have hreq : (e.skipped.advanced s.params.lead).request.period = some p := hp
  unfold State.linkBound
  rw [hdist, hpar, hstart, hlater, hp, hreq]
  simp only [Option.getD_some]
  have hsum : ((s.params.lead : Int) - s.distance e.windowStart).toNat =
      ((s.params.lead : Int) - (s.distance e.windowStart + p)).toNat + p := by omega
  rw [hsum, Nat.add_div_right _ (by omega)]

/-- The chain stops where no commit of the entry found is due. -/
theorem commitLinks_stop (h : ∀ e, s.findEntry tag = some e → s.commitDue e = false) (n : Nat) : State.commitLinks tag n s = s := by
  cases n with
  | zero => rfl
  | succ n =>
    rw [State.commitLinks]
    cases hf : s.findEntry tag with
    | none => rfl
    | some e => simp [h e hf]

theorem commitLinks_due (hf : s.findEntry tag = some e) (hd : s.commitDue e = true) (n : Nat) :
    State.commitLinks tag (n + 1) s = State.commitLinks tag n (s.commit e) := by
  rw [State.commitLinks, hf]
  simp only [hd, if_true]

/-- Links beyond the bound are not made: two chains that are both allowed as many as the bound are one (R28, R107). -/
theorem commitLinks_enough (hf : s.findEntry e.tag = some e) (h : s.Chains e) {n m : Nat} (hn : s.linkBound e ≤ n) (hm : s.linkBound e ≤ m) :
    State.commitLinks e.tag n s = State.commitLinks e.tag m s := by
  induction n generalizing m s e with
  | zero => exact absurd (linkBound_pos.trans hn) (by decide)
  | succ n ih =>
    obtain ⟨m, rfl⟩ : ∃ k, m = k + 1 := ⟨m - 1, (Nat.sub_add_cancel (linkBound_pos.trans hm)).symm⟩
    cases hd : s.commitDue e with
    | false => rw [commitLinks_stop (no_commit_of_found hf hd), commitLinks_stop (no_commit_of_found hf hd)]
    | true =>
      rw [commitLinks_due hf hd, commitLinks_due hf hd]
      rcases commit_found hf with stop | ⟨hl, hnext⟩
      · rw [commitLinks_stop stop, commitLinks_stop stop]
      · cases hdn : (s.commit e).commitDue (e.skipped.advanced s.params.lead) with
        | false => rw [commitLinks_stop (no_commit_of_found hnext hdn), commitLinks_stop (no_commit_of_found hnext hdn)]
        | true =>
          have hb := linkBound_next h hl hd hdn
          exact ih (e := e.skipped.advanced s.params.lead) hnext h.next (by omega) (by omega)

/-- A chain whose commit is due is that commit and the chain after it (R28). -/
theorem commitWhileDue_step (hf : s.findEntry e.tag = some e) (h : s.Chains e) (hd : s.commitDue e = true) :
    s.commitWhileDue e.tag = (s.commit e).commitWhileDue e.tag := by
  have hlinks : s.commitWhileDue e.tag = State.commitLinks e.tag (s.linkBound e - 1) (s.commit e) := by
    rw [State.commitWhileDue, hf]
    exact commitLinks_due hf hd _
  rw [hlinks]
  rcases commit_found hf with stop | ⟨hl, hnext⟩
  · rw [commitLinks_stop stop, commitWhileDue_stop stop]
  · cases hdn : (s.commit e).commitDue (e.skipped.advanced s.params.lead) with
    | false => rw [commitLinks_stop (no_commit_of_found hnext hdn), commitWhileDue_stop (no_commit_of_found hnext hdn)]
    | true =>
      have hb := linkBound_next h hl hd hdn
      rw [State.commitWhileDue, hnext]
      exact commitLinks_enough (e := e.skipped.advanced s.params.lead) hnext h.next (by omega) (le_refl _)

/-- Settles O28: a chain with a commit due takes it as its first link, and one with none due makes none. -/
theorem commitChain : Obligations.CommitChain := by
  intro s e hf hl hp hr
  exact ⟨fun hs hd => commitWhileDue_step hf ⟨hl, hp, hr⟩ (commitDue_iff.mpr ⟨hs, hd⟩),
    fun h => commitWhileDue_stop (no_commit_of_found hf (commitDue_false_iff.mpr h))⟩

end Sys2Proof.Machine
end

section
/-! O27, O31 and O32: the commit point, the start and end of a window, and the late rule. -/

namespace Sys2Proof.Machine

open Sys2Proof

variable {s t u : State} {tag : Tag} {e : Entry} {outcome : CommitOutcome}

/-! ## COMMIT_POINT -/

/-- Book order takes the standing entries as the statements write them. -/
theorem standing_eq : Entry.standing = fun e => decide (e.state ≠ .retiring) := by
  funext e
  rw [decide_not]
  rfl

/-- A COMMIT_POINT with an entry due is the chain of its commits, and what follows (R98). -/
theorem exec_commitPoint (hw : s.working = true) (hn : s.nextCommit = some e) :
    exec .commitPoint s = .next (s.commitWhileDue e.tag).settle := by
  have h : s.takeCommitPoint = (s.commitWhileDue e.tag).settle := by rw [State.takeCommitPoint, hn]
  rw [← h]
  exact occurs_of_enabled hw State.takeCommitPoint s

/-- A skipped occurrence is counted in the entry that skips it. -/
theorem skipTold_eq (hu : ∀ x ∈ s.book, x.tag = e.tag → x = e) : s.skipTold e outcome =
    { s.offerNotice (.occurrence e.tag e.index outcome e.windowStart 0 s.au.hold) with
      book := s.book.map fun x => if x.tag = e.tag then e.skipped else x } := by
  rw [State.skipTold, updateEntry_unique _ hu, offerNotice_book]

/-- A last occurrence skipped: the entry leaves after the report of the skip (R28, R35, R105). -/
theorem commit_skips_last (hf : s.findEntry e.tag = some e) (h : (s.decide e).skips outcome) (hl : e.onLast = true) : s.commit e =
    { (s.offerNotice (.occurrence e.tag e.index outcome e.windowStart 0 s.au.hold)).offerNotice
        (.reqEnd e.tag .done e.stage (e.index + 1) e.skipped.counters) with
      book := s.book.filter (·.tag ≠ e.tag)
      lc := { s.lc with queue := s.lc.queue.filter (·.ref ≠ .claim e.tag) } } := by
  have hbook : (s.skipTold e outcome).book.filter (·.tag ≠ e.tag) = s.book.filter (·.tag ≠ e.tag) := by
    rw [show (fun x : Entry => decide (x.tag ≠ e.tag)) = fun x => x.tag != e.tag by funext x; rw [decide_not]; rfl]
    rw [State.skipTold, (State.offerNotice_frame _ _).2.2.2.2.2.1]
    exact filter_map_tag (f := Entry.skipped) (fun _ => rfl) s.book
  have hlc : (s.skipTold e outcome).lc = s.lc := by simp [State.skipTold]
  rw [commit_skips h, occurrenceEnds_last (skipTold_found hf) hl, hbook, hlc, State.skipTold, State.updateEntry, offerNotice_onBook,
    offerNotice_book]
  rfl

/-- An earlier occurrence skipped: the entry moves on after the report of the skip (R28, R105). -/
theorem commit_skips_earlier (hf : s.findEntry e.tag = some e) (hu : ∀ x ∈ s.book, x.tag = e.tag → x = e)
    (h : (s.decide e).skips outcome) (hl : e.onLast = false) : s.commit e =
    { s.offerNotice (.occurrence e.tag e.index outcome e.windowStart 0 s.au.hold) with
      book := s.book.map fun x => if x.tag = e.tag then e.skipped.advanced s.params.lead else x } := by
  have unique : ∀ x ∈ (s.skipTold e outcome).book, x.tag = e.tag → x = e.skipped := by
    rw [skipTold_eq hu]
    intro x hx ht
    obtain ⟨y, -, rfl⟩ := List.mem_map.mp hx
    split at ht
    · rename_i hy
      rw [if_pos hy]
    · rename_i hy
      exact absurd ht hy
  have hmap : (s.book.map fun x => if x.tag = e.tag then e.skipped else x).map
      (fun x => if x.tag = e.tag then e.skipped.advanced s.params.lead else x) =
      s.book.map fun x => if x.tag = e.tag then e.skipped.advanced s.params.lead else x := by
    rw [List.map_map]
    refine List.map_congr_left fun x _ => ?_
    by_cases hx : x.tag = e.tag
    · simp only [Function.comp_apply, if_pos hx]
      exact if_pos rfl
    · simp only [Function.comp_apply, if_neg hx]
  rw [commit_skips h, occurrenceEnds_earlier (skipTold_found hf) hl, skipTold_params, updateEntry_unique _ unique, ← hmap, skipTold_eq hu]

/-- Settles O27: book order by insertion, and each decision's commit with the chain it leaves due. -/
theorem commitPoint : Obligations.CommitPoint := by
  refine ⟨fun s => ⟨?_, ?_⟩, fun s e hw hn hf hu => ?_⟩
  · rw [← standing_eq]
    exact bookOrder_perm
  · refine bookOrder_sorted.imp fun {a b} h => ?_
    simpa [State.bookBefore] using h
  · intro placed skipped told
    have hnext : s.nextCommit = some e := by
      rw [← hn, State.nextCommit]
      congr 1
      funext x
      rw [Bool.eq_iff_iff, commitDue_iff, decide_eq_true_iff]
    have hdue : s.commitDue e = true := List.find?_some hnext
    have follows : ∀ {u : State}, s.commitWhileDue e.tag = u → u.Follows (s.commitWhileDue e.tag).settle := by
      rintro u rfl
      exact settle_follows _
    have hwaiting := (commitDue_iff.mp hdue).1
    have hadvanced : ∀ {outcome p}, (s.decide e).skips outcome → e.request.period = some p →
        (e.request.count = 0 ∨ e.index.toNat + 1 < e.request.count) → s.commit e =
        { told outcome with book := s.book.map fun x => if x.tag = e.tag then
            { skipped with
              index := e.index + 1
              windowStart := later e.windowStart p
              commitPoint := later e.windowStart p - BitVec.ofNat 32 s.params.lead
              placement := none }
            else x } := fun {outcome p} hd hp hcount => by
      have he : e.skipped.advanced s.params.lead = { skipped with
          index := e.index + 1
          windowStart := later e.windowStart p
          commitPoint := later e.windowStart p - BitVec.ofNat 32 s.params.lead
          placement := none } := by
        simp [Entry.advanced, Entry.skipped, skipped, hp, hwaiting]
      rw [commit_skips_earlier hf hu hd (onLast_of_earlier hp hcount), he]
    refine ⟨_, exec_commitPoint hw hnext, fun start len hd => follows ?_, fun start len hd => follows ?_, fun outcome hd => ⟨fun hl => follows ?_,
      fun p hp hcount => ⟨fun hd' => follows ?_, fun hd' hlead hlow hhigh hpoint => follows ?_⟩⟩⟩
    · rw [commitWhileDue_once hf hdue (commit_placed_found hf (.inl hd)), commit_grant hd, updateEntry_unique _ hu]
      rfl
    · rw [commitWhileDue_once hf hdue (commit_placed_found hf (.inr hd)), commit_clip hd, updateEntry_unique _ hu]
      rfl
    · have hlast := onLast_iff.mpr hl
      rw [commitWhileDue_once hf hdue (no_commit_of_none (commit_skips_last_found hf hd hlast)), commit_skips_last hf hd hlast]
      rfl
    · have hl := onLast_of_earlier hp hcount
      have hnodue : (s.commit e).commitDue (e.skipped.advanced s.params.lead) = false := by
        rw [commitDue_false_iff, distance_congr (s := s) (by simp)]
        right
        change 0 < s.distance (later e.windowStart (e.request.period.getD 0) - _)
        rw [hp]
        exact hd'
      rw [commitWhileDue_once hf hdue (no_commit_of_found (commit_skips_earlier_found hf hd hl) hnodue), hadvanced hd hp hcount]
    · have hchains : s.Chains e := ⟨hlead, hpoint, fun p' hp' => by rw [hp] at hp'; cases hp'; exact ⟨hlow, hhigh⟩⟩
      rw [commitWhileDue_step hf hchains hdue, hadvanced hd hp hcount]

/-! ## The window of an occurrence -/

theorem Stage.raiseTo_active (st : Stage) : st.raiseTo .active = .active := by cases st <;> rfl

/-- What is due of a placement, as the statement writes it (R2, R119). -/
theorem startDue_iff {p : Placement} (hp : e.placement = some p) :
    s.startDue e = true ↔ e.state = .committed ∧ s.distance p.start ≤ 0 := by
  simp [State.startDue, State.dueSome, State.due, hp]

theorem endDue_iff {p : Placement} (hp : e.placement = some p) :
    s.endDue e = true ↔ e.state = .active ∧ s.distance (later p.start p.length) ≤ 0 := by
  simp [State.endDue, State.dueSome, State.due, hp, Placement.endsAt]

/-- A placed start due opens the window of its entry (R26). -/
theorem exec_placedStart (hw : s.working = true) (hf : s.findEntry tag = some e) (hd : s.startDue e = true) :
    exec (.placedStart tag) s = .next (s.updateEntry tag Entry.opened).settle := by
  have h : s.takePlacedStart tag = (s.updateEntry tag Entry.opened).settle := by
    rw [State.takePlacedStart, hf]
    exact if_pos hd
  rw [← h]
  exact occurs_of_enabled hw _ s

/-- A placed end due ends the occurrence of its entry (R27, R28). -/
theorem exec_placedEnd (hw : s.working = true) (hf : s.findEntry tag = some e) (hd : s.endDue e = true) :
    exec (.placedEnd tag) s = .next (s.endOccurrence tag).settle := by
  have h : s.takePlacedEnd tag = (s.endOccurrence tag).settle := by
    rw [State.takePlacedEnd, hf]
    exact if_pos hd
  rw [← h]
  exact occurs_of_enabled hw _ s

/-- Settles O31: the window opens, the occurrence ends with what it leaves due, and the joining ends. -/
theorem windowsAndJoining : Obligations.WindowsAndJoining := by
  refine ⟨fun tag e p s hw hf hp hu => ⟨fun hs hd => ?_, fun hs hd => ?_⟩, fun s joiningEnd hw hj he hd => ?_⟩
  · refine ⟨_, exec_placedStart hw hf ((startDue_iff hp).mpr ⟨hs, hd⟩), ?_⟩
    have hopened : e.opened = { e with state := .active, stage := .active } := by rw [Entry.opened, Stage.raiseTo_active]
    rw [← hopened, ← updateEntry_unique _ hu]
    exact settle_follows _
  · have follows : ∀ {u : State}, s.endOccurrence tag = u → u.Follows (s.endOccurrence tag).settle := by
      rintro u rfl
      exact settle_follows _
    refine ⟨_, exec_placedEnd hw hf ((endDue_iff hp).mpr ⟨hs, hd⟩), fun hl => follows ?_, fun period hper hcount => ?_⟩
    · have hlast := onLast_iff.mpr hl
      rw [State.endOccurrence, commitWhileDue_stop (no_commit_of_none (occurrenceEnds_last_found hf hlast)), occurrenceEnds_last hf hlast]
    · intro ws next advanced
      have hl := onLast_of_earlier hper hcount
      have hnext : e.advanced s.params.lead = next := by simp [Entry.advanced, next, ws, hper]
      have hadvanced : s.occurrenceEnds tag = advanced := by rw [occurrenceEnds_earlier hf hl, updateEntry_unique _ hu, hnext]
      refine ⟨fun hd => follows ?_, fun _ => follows ?_⟩
      · have hfound : advanced.findEntry tag = some next := by
          rw [← hadvanced, ← hnext]
          exact occurrenceEnds_earlier_found hf hl
        rw [State.endOccurrence, hadvanced]
        exact commitWhileDue_stop (no_commit_of_found hfound (commitDue_false_iff.mpr (.inr hd)))
      · rw [State.endOccurrence, hadvanced]
  · have hdue : (s.working && s.joiningEndDue) = true := by
      simp [hw, State.joiningEndDue, hj, he, State.dueSome, State.due, hd]
    exact occurs_settles hdue (fun s => s.onPe fun p => { p with joining := .running, joiningStart := none, joiningEnd := none }) s

/-! ## The late rule -/

/-- The length a cut point leaves is enough for a request that may be clipped (R110, R111). -/
theorem keepsEnough_iff {left : Int} : e.keepsEnough left = true ↔ ∃ m, e.request.minDuration = some m ∧ (m : Int) ≤ left := by
  unfold Entry.keepsEnough
  cases e.request.minDuration <;> simp

/-- The cut point is the one start that none comes before (R109). -/
theorem cutPoint_eq {l : List Interval} {a : Int} (hm : ∃ g ∈ l, g.1 = a) (hle : ∀ g ∈ l, a ≤ g.1) : cutPoint l = some a := by
  obtain ⟨g, hg, hga⟩ := hm
  rcases cutPoint_spec l with ⟨rfl, -⟩ | ⟨b, h, ⟨g', hg', hgb⟩, hle'⟩
  · cases hg
  · have h1 := hle g' hg'
    have h2 := hle' g hg
    rw [h, show b = a by omega]

/-- The late test of an entry with a COMMITTED or ACTIVE placement, by the cut point (R108, R109). -/
theorem lateTestOne_cut {c : ClaimEntry} {p : Placement} {a : Int} (hf : s.findEntry e.tag = some e) (hp : e.placement = some p)
    (ha : cutPoint (s.blockingOf e.activity (s.remainingPart e p) c) = some a) :
    (e.state = .committed → State.lateTestOne c s e.tag = s.lateCommitted e p a) ∧
    (e.state = .active → State.lateTestOne c s e.tag = s.lateActive e p a) := by
  unfold State.lateTestOne
  simp only [hf, hp, ha]
  exact ⟨fun hs => by rw [hs], fun hs => by rw [hs]⟩

theorem saturatingSucc_eq (n : BitVec 16) : saturatingSucc n = if n = 65535 then 65535 else n + 1 := by
  unfold saturatingSucc
  split
  · assumption
  · rfl

/-- Settles O32: the cut point decides between the cut, the retraction and the counted overlap. -/
theorem lateRule : Obligations.LateRule := by
  refine ⟨fun _ _ => rfl, fun c s tag h => ?_, fun c s e p hf hp hs hu => ?_⟩
  · unfold State.lateTestOne
    cases hf : s.findEntry tag with
    | none => rfl
    | some e =>
      cases hp : e.placement with
      | none => simp only [hp]
      | some p =>
        have hs := (h e hf).resolve_left (by simp [hp])
        simp only [hp]
        cases cutPoint (s.blockingOf e.activity (s.remainingPart e p) c) with
        | none => rfl
        | some a => rcases hs with hs | hs <;> rw [hs]
  · intro start begins late enough cut
    have hlate : s.blockingOf e.activity (s.remainingPart e p) c = late := rfl
    have hcut : ∀ len : Nat, (s.updateEntry e.tag fun e => e.cutTo len).offerNotice (.occChange e.tag e.index .cut len) = cut len := by
      intro len
      rw [updateEntry_unique _ hu]
      simp [cut, Entry.cutTo, hp]
    refine ⟨fun hnil => ?_, fun a hm hle => ?_⟩
    · unfold State.lateTestOne
      simp only [hf, hp, hlate, hnil, cutPoint]
    · obtain ⟨hcommitted, hactive⟩ := lateTestOne_cut (c := c) hf hp (cutPoint_eq (l := late) hm hle)
      have henough : enough a ↔ e.keepsEnough (a - s.distance p.start) = true := keepsEnough_iff.symm
      refine ⟨fun hs h => ?_, fun hs h => ?_, fun hs h ha => ?_, fun hs h ha => ?_, fun hs h => ?_⟩
      · rw [hcommitted hs, State.lateCommitted, if_pos (henough.mp h), hcut]
      · rw [hcommitted hs, State.lateCommitted, if_neg (fun hk => h (henough.mpr hk)), updateEntry_unique _ hu]
        rfl
      · rw [hactive hs, State.lateActive, if_pos (henough.mp h), if_neg (by omega), hcut, max_eq_left ha.le]
      · rw [hactive hs, State.lateActive, if_pos (henough.mp h), if_pos (by omega), hcut, max_eq_right ha, zero_sub]
      · rw [hactive hs, State.lateActive, if_neg (fun hk => h (henough.mpr hk)), updateEntry_unique _ hu]
        have hcount : (if s.au.lateOverlaps = 65535 then 65535 else s.au.lateOverlaps + 1) = saturatingSucc s.au.lateOverlaps :=
          (saturatingSucc_eq _).symm
        rw [hcount]
        rfl

end Sys2Proof.Machine
end

section
/-! O14, O15 and O16: SUBMIT and CANCEL in JOINING and RUNNING. -/

namespace Sys2Proof.Machine

open Sys2Proof

variable {s b : State} {tag : Tag} {e : Entry} {q : Request}

/-! ## The checks of a SUBMIT -/

theorem findEntry_none_iff : s.findEntry tag = none ↔ ∀ x ∈ s.book, x.tag ≠ tag := by
  simp [State.findEntry]

theorem spanTaken_iff {low high : Nat} : spanTaken low high = true ↔ low ≤ high ∧ high - low ≤ 1000 := by
  simp [spanTaken, spanWidth]

theorem periodTaken_iff : q.periodTaken = true ↔ ∀ p, q.period = some p → 100 ≤ p ∧ p ≤ 1000000 ∧ q.claimWindow < p := by
  unfold Request.periodTaken
  cases q.period <;> simp [and_assoc]

/-- The removal step of a CSn rise leaves what a SUBMIT and a CANCEL read. -/
theorem riseCsn_joined (whole : Nat) (s : State) : (s.riseCsn whole).joined = s.joined := joined_congr (by simp) (by simp)

theorem riseCsn_submitRefusal (whole : Nat) (s : State) : (s.riseCsn whole).submitRefusal q = s.submitRefusal q := by
  rw [State.submitRefusal, State.submitRefusal, findEntry_congr (s := s) (by simp)]
  simp

theorem riseCsn_newEntry (whole : Nat) (s : State) : (s.riseCsn whole).newEntry q = s.newEntry q := by
  rw [State.newEntry, State.newEntry, demotes_congr (s := s) (by simp) (by simp) (by simp)]
  simp [State.now, State.nextSequence]

/-- Settles O15: each check that fails gives its reason when those before it pass. -/
theorem submitRefused : Obligations.SubmitRefused := by
  intro whole r q reason s b hl hb hf hj hq clear room fresh near span period h
  subst hq hb
  have hfresh : (s.findEntry (takeSubmit r).value.tag).isSome = true ↔ ¬ fresh := by
    rw [Option.isSome_iff_ne_none, ne_eq, findEntry_none_iff]
    rfl
  have hspan : spanTaken (takeSubmit r).value.low (takeSubmit r).value.high = true ↔ span := spanTaken_iff
  have hperiod : (takeSubmit r).value.periodTaken = true ↔ period := periodTaken_iff
  have hnear : ¬ 4000000 < (takeSubmit r).value.startOffset ↔ near := not_lt
  have hroom : ¬ Config.bookSize ≤ s.book.length ↔ room := not_le
  have hrefusal : s.submitRefusal (takeSubmit r).value = some reason := by
    unfold State.submitRefusal
    rcases h with ⟨h1, rfl⟩ | ⟨h1, h2, rfl⟩ | ⟨h1, h2, h3, rfl⟩ | ⟨h1, h2, h3, h4, rfl⟩ | ⟨h1, h2, h3, h4, h5, rfl⟩ |
      ⟨h1, h2, h3, h4, h5, h6, rfl⟩
    · rw [if_pos h1]
    · rw [if_neg (not_not.mpr h1), if_pos (not_not.mp (mt hroom.mp h2))]
    · rw [if_neg (not_not.mpr h1), if_neg (hroom.mpr h2), if_pos (hfresh.mpr h3)]
    · rw [if_neg (not_not.mpr h1), if_neg (hroom.mpr h2), if_neg (fun h => hfresh.mp h h3), if_pos (not_not.mp (mt hnear.mp h4))]
    · rw [if_neg (not_not.mpr h1), if_neg (hroom.mpr h2), if_neg (fun h => hfresh.mp h h3), if_neg (hnear.mpr h4),
        if_pos (by simpa using mt hspan.mp h5)]
    · rw [if_neg (not_not.mpr h1), if_neg (hroom.mpr h2), if_neg (fun h => hfresh.mp h h3), if_neg (hnear.mpr h4),
        if_neg (by simpa using hspan.mpr h5), if_pos (by simpa using mt hperiod.mp h6)]
  exact rise_settles hl rfl rfl hf (handleSubmit_refused ((riseCsn_joined whole s).trans hj) ((riseCsn_submitRefusal whole s).trans hrefusal))

/-! ## The asks that find room -/

theorem makeRoom_of_room (h : s.lc.queue.length < 17) : s.makeRoom = s := if_pos h

/-- A frame asked for joins a queue with room, with the next queue time (R155). -/
theorem enqueue_of_room {ref : FrameRef} (h : s.lc.queue.length < 17) : s.enqueue ref =
    { s with lc := { s.lc with queue := s.lc.queue ++ [⟨ref, s.lc.nextAsk⟩], nextAsk := s.lc.nextAsk + 1 } } := by
  rw [State.enqueue, makeRoom_of_room h]
  rfl

theorem dequeue_eq (ref : FrameRef) : s.dequeue ref = { s with lc := { s.lc with queue := s.lc.queue.filter (·.ref ≠ ref) } } := by
  have h : (s.lc.queue.filter fun f => f.ref != ref) = s.lc.queue.filter (·.ref ≠ ref) :=
    List.filter_congr fun f _ => by rw [decide_not]; rfl
  rw [← h]
  rfl

/-- A held claim is not asked for (R36, R61). -/
theorem askClaim_held (hf : s.findEntry tag = some e) (h : e.held = true) : s.askClaim tag = s := by
  rw [State.askClaim, hf]
  simp [h]

/-- A claim is asked for by a tag that has no frame queued (R59). -/
theorem askClaim_joins (hf : s.findEntry tag = some e) (hs : e.standing = true) (hh : e.held = false) (hroom : s.lc.queue.length < 17)
    (free : ∀ f ∈ s.lc.queue, f.ref.tagOf ≠ some tag) : s.askClaim tag =
    { s with lc := { s.lc with queue := s.lc.queue ++ [⟨.claim tag, s.lc.nextAsk⟩], nextAsk := s.lc.nextAsk + 1 } } := by
  have none : ∀ ref : FrameRef, ref.tagOf = some tag → ¬ s.queueHolds ref = true := fun ref ht h => by
    obtain ⟨f, hf, rfl⟩ := (queueHolds_iff ref).mp h
    exact free f hf ht
  rw [State.askClaim, hf]
  simp only [hs, hh, none (.claim tag) rfl, none (.withdraw tag) rfl, Bool.not_true, Bool.or_false, Bool.false_eq_true, if_false]
  exact enqueue_of_room hroom

/-- A claim asked for takes the place of the WITHDRAW still queued for its tag (R59). -/
theorem askClaim_replaces (hf : s.findEntry tag = some e) (hs : e.standing = true) (hh : e.held = false) (hsize : s.lc.queue.length ≤ 17)
    (noclaim : ∀ f ∈ s.lc.queue, f.ref ≠ .claim tag) (hw : ∃ f ∈ s.lc.queue, f.ref = .withdraw tag) : s.askClaim tag =
    { s with lc := { s.lc with
        queue := s.lc.queue.filter (·.ref ≠ .withdraw tag) ++ [⟨.claim tag, s.lc.nextAsk⟩], nextAsk := s.lc.nextAsk + 1 } } := by
  have hclaim : ¬ s.queueHolds (.claim tag) = true := fun h => by
    obtain ⟨f, hf, hr⟩ := (queueHolds_iff _).mp h
    exact noclaim f hf hr
  have hroom : (s.dequeue (.withdraw tag)).lc.queue.length < 17 := by
    obtain ⟨f, hf, hr⟩ := hw
    have : (s.lc.queue.filter fun f => f.ref != .withdraw tag).length < s.lc.queue.length :=
      List.length_filter_lt_length_iff_exists.mpr ⟨f, hf, by simp [hr]⟩
    exact this.trans_le hsize
  rw [State.askClaim, hf]
  simp only [hs, hh, hclaim, (queueHolds_iff _).mpr hw, Bool.not_true, Bool.or_false, Bool.false_eq_true, if_false, if_true]
  rw [enqueue_of_room hroom, dequeue_eq]

/-! ## The admission -/

/-- The critical load, as the statement writes it (R17). -/
theorem criticalLoad_eq (q : Request) (epochLength : Nat) : q.criticalLoad epochLength =
    (q.duration + q.slack) * (match q.period with
      | some p => (epochLength + p - 1) / p
      | none => 1) := by
  unfold Request.criticalLoad
  cases q.period <;> rfl

/-- Settles O14: the admission is `enterBook`, and its ask is one of the three that the statement tells apart. -/
theorem submitAdmitted : Obligations.SubmitAdmitted := by
  intro whole r q clamped e s b hl hb hf hj htake hclear hroom hfresh hnear hlow hspan hperiod load counted demoted he outcome taken admitted u hu
  subst hb
  have hvalue : (takeSubmit r).value = q := by rw [htake]
  have hclamped : (takeSubmit r).clamped = clamped := by rw [htake]
  have htag : q.tag = r.tag := by rw [← hvalue]; rfl
  have hload : ∀ x : Request, x.criticalLoad s.tb.epochLength = load x := fun x => criticalLoad_eq x _
  have hdemotes : s.demotes q = demoted := by
    have hloads : s.criticalLoads = ((s.book.filter fun x => x.state ≠ .retiring ∧ x.effClass = .critical).map fun x => load x.request).sum := by
      rw [State.criticalLoads]
      simp only [hload]
      congr 2
      refine List.filter_congr fun x _ => ?_
      rw [Bool.eq_iff_iff]
      simp [Entry.standing]
    rw [State.demotes, hload, hloads]
    simp [demoted, counted]
  have hentry : (s.riseCsn whole).newEntry q = e := by
    rw [riseCsn_newEntry, State.newEntry, hdemotes, he]
  have hrefusal : (s.riseCsn whole).submitRefusal (takeSubmit r).value = none := by
    rw [riseCsn_submitRefusal, hvalue]
    exact (submitRefusal_none_iff q).mpr ⟨hclear, hroom, by rw [htag]; exact hfresh, hnear, spanTaken_iff.mpr ⟨hlow, hspan⟩, periodTaken_iff.mpr hperiod⟩
  have houtcome : (s.riseCsn whole).admitOutcome q clamped = outcome := by
    rw [State.admitOutcome, demotes_congr (s := s) (by simp) (by simp) (by simp), hdemotes]
  have hlc : taken.lc = s.lc := by simp [taken]
  have hfound : taken.findEntry r.tag = some e := by
    have hetag : e.tag = r.tag := by rw [he]; exact htag
    rw [State.findEntry]
    have hbook : taken.book = s.book ++ [e] := by simp [taken]
    rw [hbook, List.find?_append, List.find?_eq_none.mpr (by simpa using hfresh)]
    simp [hetag]
  have hstanding : e.standing = true := by rw [he]; rfl
  have hask : taken.askClaim r.tag = u := by
    rcases hu with ⟨hh, rfl⟩ | ⟨hh, hsize, free, rfl⟩ | ⟨hh, hsize, noclaim, hw, rfl⟩
    · exact askClaim_held hfound hh
    · rw [askClaim_joins hfound hstanding hh (hlc ▸ hsize) (hlc ▸ free), hlc]
      simp [admitted]
    · rw [askClaim_replaces hfound hstanding hh (hlc ▸ hsize) (hlc ▸ noclaim) (hlc ▸ hw), hlc]
      simp [admitted]
  have hhandled : (s.riseCsn whole).handleSubmit r = u.commitWhileDue r.tag := by
    rw [handleSubmit_admitted ((riseCsn_joined whole s).trans hj) hrefusal, hvalue, hclamped, State.enterBook, houtcome, hentry, htag, ← hask]
    rfl
  obtain ⟨t, ht, hfollows⟩ := rise_settles (c := .submit whole r) hl rfl rfl hf hhandled
  refine ⟨t, ht, fun hd => ?_, fun _ => hfollows⟩
  have hufound : u.findEntry r.tag = some e := by rw [findEntry_congr (s := taken) (by rw [← hask]; simp), hfound]
  have hudue : u.commitDue e = false := by
    refine commitDue_false_iff.mpr (.inr ?_)
    rw [distance_congr (s := s) (by rw [← hask]; simp [taken])]
    exact hd
  rwa [commitWhileDue_stop (no_commit_of_found hufound hudue)] at hfollows

/-! ## CANCEL -/

theorem handleCancel_refused (hj : s.joined = true) (h : s.findEntry tag = none ∨ ∃ e, s.findEntry tag = some e ∧ e.state = .retiring) :
    s.handleCancel tag = s.refuse kindCancel .unknownTag tag := by
  unfold State.handleCancel
  rcases whenJoined_cases (s := s) kindCancel tag _ with ⟨-, k⟩ | ⟨hn, -⟩
  · rw [k]
    rcases h with h | ⟨e, h, hs⟩
    · simp only [h]
    · simp only [h, Entry.standing, hs]
      rfl
  · rw [hj] at hn
    cases hn

theorem handleCancel_taken (hj : s.joined = true) (hf : s.findEntry tag = some e) (hs : e.state ≠ .retiring) :
    s.handleCancel tag = (s.reply kindCancel .accepted .none tag []).cancelEntry e := by
  unfold State.handleCancel
  rcases whenJoined_cases (s := s) kindCancel tag _ with ⟨-, k⟩ | ⟨hn, -⟩
  · have hstanding : e.standing = true := by simpa [Entry.standing] using hs
    rw [k]
    simp only [hf, hstanding, if_true]
  · rw [hj] at hn
    cases hn

/-- A WITHDRAW asked for takes the place of the frame queued for its tag (R30, R62). -/
theorem askWithdraw_of_room (h : (s.lc.queue.filter fun f => f.ref ≠ .claim tag ∧ f.ref ≠ .withdraw tag).length < 17) : s.askWithdraw tag =
    { s with lc := { s.lc with
        queue := (s.lc.queue.filter fun f => f.ref ≠ .claim tag ∧ f.ref ≠ .withdraw tag) ++ [⟨.withdraw tag, s.lc.nextAsk⟩]
        nextAsk := s.lc.nextAsk + 1 } } := by
  have hqueue : ((s.dequeue (.claim tag)).dequeue (.withdraw tag)).lc.queue =
      s.lc.queue.filter fun f => f.ref ≠ .claim tag ∧ f.ref ≠ .withdraw tag := by
    rw [dequeue_eq, dequeue_eq, List.filter_filter]
    refine List.filter_congr fun f _ => ?_
    rw [Bool.decide_and, Bool.and_comm]
  rw [State.askWithdraw, enqueue_of_room (by rw [hqueue]; exact h), hqueue]
  rfl

/-- Settles O16: the REPLY and REQ_END, then the entry leaves or retires. -/
theorem cancelEnds : Obligations.CancelEnds := by
  intro whole tag s b hl hb hf hj
  subst hb
  have hjoined : (s.riseCsn whole).joined = true := (riseCsn_joined whole s).trans hj
  have hfind : (s.riseCsn whole).findEntry = s.findEntry := findEntry_congr (by simp)
  refine ⟨fun h => rise_settles hl rfl rfl hf (handleCancel_refused hjoined (hfind ▸ h)), fun e he hs => ?_⟩
  intro ended told others
  have htag := findEntry_tag he
  have hended : e.reqEnd .cancelled = .reqEnd tag .cancelled e.stage ended e.counters := by
    simp [Entry.reqEnd, Entry.occurrencesEnded, ended, htag]
  have hcancel : (s.riseCsn whole).handleCancel tag =
      if e.announced then (told.updateEntry tag Entry.retire).askWithdraw tag else (told.dequeue (.claim tag)).removeEntry tag := by
    rw [handleCancel_taken hjoined (hfind ▸ he) hs, State.cancelEntry, hended, htag]
    rfl
  obtain ⟨t, ht, hfollows⟩ := rise_settles (c := .cancel whole tag) hl rfl rfl hf hcancel
  have hretired : told.updateEntry tag Entry.retire = { told with
      book := (s.riseCsn whole).book.map fun x => if x.tag = tag then { x with state := .retiring, placement := none } else x } := by
    apply State.eq_of_blocks <;> simp [State.updateEntry, told, Entry.retire]
  have hleft : (told.dequeue (.claim tag)).removeEntry tag = { told with
      book := (s.riseCsn whole).book.filter (·.tag ≠ tag)
      lc := { (s.riseCsn whole).lc with queue := (s.riseCsn whole).lc.queue.filter (·.ref ≠ .claim tag) } } := by
    have hbook : (told.book.filter fun x => x.tag != tag) = (s.riseCsn whole).book.filter (·.tag ≠ tag) := by
      rw [show told.book = (s.riseCsn whole).book by simp [told]]
      exact List.filter_congr fun x _ => by rw [decide_not]; rfl
    have hlc : told.lc = (s.riseCsn whole).lc := by simp [told]
    rw [dequeue_eq, State.removeEntry, State.onBook, hbook, hlc]
  refine ⟨t, ht, fun ha => ?_, fun ha => ?_, fun ha hroom => ?_⟩ <;> rw [ha] at hfollows
  · rw [← hleft]
    exact hfollows
  · rw [← hretired]
    exact hfollows
  · have hlc : (told.updateEntry tag Entry.retire).lc = (s.riseCsn whole).lc := by simp [told]
    rw [if_pos rfl, askWithdraw_of_room (by rw [hlc]; exact hroom), hlc, hretired] at hfollows
    exact hfollows

end Sys2Proof.Machine
end

section
/-! O44 and O46: the report of an own start mark, and the detection of a line clear. -/

namespace Sys2Proof.Machine

open Sys2Proof

variable {s : State} {tag : Tag} {e : Entry} {c : Contender} {latch : Time} {f : QueuedFrame} {body : FrameBody}

/-! ## The report of an own start mark -/

/-- The contending frame has left the queue and is in transmission, with the body composed at its latch (R152, R154). -/
def State.sends (s : State) (c : Contender) (latch : Time) (f : QueuedFrame) (body : FrameBody) : State :=
  { s with lc := { s.lc with
    queue := s.lc.queue.filter (·.ref ≠ c.ref)
    contending := none
    inTransmission := some ⟨f, latch, ⟨s.station, body⟩⟩ } }

/-- The report hands the frame sent to the block that owns it (R154). -/
theorem exec_ownStartMark (hw : s.working = true) (hr : s.lc.receiver = .frame) (hc : s.lc.contending = some c) (hl : s.lc.latch = some latch)
    (hf : s.lc.queue.find? (fun g => g.ref == c.ref) = some f) (hb : s.composeBody c latch = some body) :
    exec .ownStartMarkReported s = .next ((s.sends c latch f body).handReport latch body) := by
  have h : s.reportStartMark = (s.sends c latch f body).handReport latch body := by
    unfold State.reportStartMark
    simp only [hc, hl, hf, hb]
    rw [dequeue_eq]
    rfl
  rw [← h]
  exact occurs_of_enabled (by simp [hw, hr]) State.reportStartMark s

/-- A BEACON that is not the first FRESH one of the JOINING gives PE its credit alone (R48, R49). -/
theorem reportBeacon_plain {fresh : Bool} (h : fresh = false ∨ s.pe.joining ≠ .joining ∨ s.pr.firstFresh.isSome = true) :
    s.reportBeacon latch fresh = { s with pe := { s.pe with rankingCredit := s.am.credit } } := by
  unfold State.reportBeacon
  refine if_neg fun hall => ?_
  simp only [Bool.and_eq_true, beq_iff_eq] at hall
  obtain ⟨⟨hfresh, hj⟩, hn⟩ := hall
  rcases h with h | h | h
  · rw [h] at hfresh
    cases hfresh
  · exact h hj
  · rw [Option.isNone_iff_eq_none.mp hn] at h
    cases h

/-- The held claims are asked for in book order, and none stays held (R49, R61). -/
theorem releaseHeldClaims_eq {order : List Entry} (h : s.bookOrder = order) : s.releaseHeldClaims = State.askClaims
    { s with book := s.book.map fun e => if e.standing then { e with held := false } else e } ((order.filter (·.held)).map Entry.tag) := by
  subst h
  rfl

/-- The first FRESH beacon of the JOINING sets the joining start and end, and the held claims are asked for in book order (R49, R61, R95). -/
theorem reportBeacon_first (hj : s.pe.joining = .joining) (hn : s.pr.firstFresh = none) : s.reportBeacon latch true =
    State.askClaims
      { s with
        pe := { s.pe with
          rankingCredit := s.am.credit
          joiningStart := some latch
          joiningEnd := some (later latch (2 * s.tb.epochLength)) }
        pr := { s.pr with firstFresh := some latch }
        book := s.book.map fun e => if e.standing then { e with held := false } else e }
      ((s.bookOrder.filter (·.held)).map Entry.tag) := by
  unfold State.reportBeacon
  have hfirst : (true && s.pe.joining == .joining && s.pr.firstFresh.isNone) = true := by rw [hj, hn]; rfl
  dsimp only
  rw [if_pos hfirst]
  exact releaseHeldClaims_eq (bookOrder_congr rfl rfl)

/-- The body of an own CLAIM, field by field (R64). -/
theorem composeClaim_eq (he : e.tag = tag) : e.composeClaim latch =
    { tag := tag
      cls := BitVec.ofNat 3 e.effClass.number
      dir := e.request.dir.code
      power := BitVec.ofNat 2 e.request.power
      low := BitVec.ofNat 13 (e.request.low - 2400)
      high := BitVec.ofNat 13 (e.request.high - 2400)
      window := BitVec.ofNat 17 (e.request.duration + e.request.slack)
      anchorOffset := BitVec.ofInt 23 (e.windowStart - latch).toInt
      period := BitVec.ofNat 20 (e.request.period.getD 0)
      remaining := BitVec.ofNat 16 (match e.request.period with
        | none => 1
        | some _ => if e.request.count = 0 then 0 else e.request.count - e.index.toNat) } := by
  subst he
  unfold Entry.composeClaim Entry.remainingCount
  cases e.request.period <;> rfl

theorem endRetirement_stands (h : s.findEntry tag = none ∨ ∃ e, s.findEntry tag = some e ∧ e.state ≠ .retiring) : s.endRetirement tag = s := by
  unfold State.endRetirement
  rcases h with h | ⟨e, h, hs⟩ <;> rw [h]
  exact if_pos (by simpa [Entry.standing] using hs)

theorem endRetirement_leaves (hf : s.findEntry tag = some e) (hs : e.state = .retiring) :
    s.endRetirement tag = { s with book := s.book.filter (·.tag ≠ tag) } := by
  have hbook : (s.book.filter fun x => x.tag != tag) = s.book.filter (·.tag ≠ tag) :=
    List.filter_congr fun x _ => by rw [decide_not]; rfl
  rw [State.endRetirement, hf, ← hbook]
  exact if_neg (by simp [Entry.standing, hs])

/-- Settles O44: the report by the kind of the contending frame. -/
theorem ownStartMark : Obligations.OwnStartMark := by
  intro s c latch f hw hr hc hl hf sent
  have report : ∀ {body}, s.composeBody c latch = some body →
      exec .ownStartMarkReported s = .next ((sent body).handReport latch body) := exec_ownStartMark hw hr hc hl hf
  refine ⟨fun hb => ?_, fun tag e hb he hu => ?_, fun tag hb => ?_⟩
  · intro u
    have hbody : s.composeBody c latch = some (.beacon (s.composeBeacon latch)) := by rw [State.composeBody, hb]
    refine ⟨fun h => ?_, fun hfresh hj hn => ?_⟩
    · refine (report hbody).trans (congrArg _ ?_)
      exact reportBeacon_plain (s := sent _) h
    · intro opened
      refine (report hbody).trans (congrArg _ ?_)
      have hfirst := reportBeacon_first (s := u) (latch := latch) hj hn
      rw [show u.bookOrder = s.bookOrder from bookOrder_congr rfl rfl] at hfirst
      change u.reportBeacon latch s.pr.freshOwed = _
      rw [hfresh, hfirst]
  · intro count u
    have hbody : s.composeBody c latch = some (.claim (c.key == .shortClaim) (e.composeClaim latch)) := by
      rw [State.composeBody, hb]
      simp only [he, Option.map_some]
    rw [composeClaim_eq (findEntry_tag he)] at hbody
    refine (report hbody).trans (congrArg _ ?_)
    exact updateEntry_unique (s := u) _ hu
  · have hbody : s.composeBody c latch = some (.withdraw tag) := by rw [State.composeBody, hb]
    refine ⟨fun h => (report hbody).trans (congrArg _ ?_), fun e he hs => (report hbody).trans (congrArg _ ?_)⟩
    · exact endRetirement_stands (s := sent _) h
    · exact endRetirement_leaves (s := sent _) he hs

/-! ## The detection of a line clear -/

/-- A line clear is due when none is detected for the stretch and the stretch has lasted 64 bit times (R162). -/
theorem clearDue_iff : s.clearDue = true ↔ s.lc.clearDetected = false ∧ ∃ start, s.lc.stretch = some start ∧ s.distance (later start 32) ≤ 0 := by
  unfold State.clearDue State.stretchLong
  cases s.lc.stretch <;> simp [State.dueSome, State.due, Config.clearStretch]

/-- LC at the detection: the receiver keeps its state until the stretch ends, a count toward line idle going back to 0 (R150, R162). -/
theorem LineController.atClear_eq (l : LineController) : l.atClear =
    { l with
      driver := if l.clearDrive.isSome then .dominant else .released
      receiver := match l.receiver with
        | .waitIdle _ => .waitIdle 0
        | .idle => .idle
        | .frame => .frame
      latch := none
      queue := []
      contending := none
      inTransmission := none
      clearDetected := true } := by
  unfold LineController.atClear
  cases l.receiver <;> rfl

/-- In UNSET a line clear empties CT and LC, sets back the records and is reported (R164). -/
theorem lineClear_unjoined (hj : s.joined = false) : s.lineClear =
    { s.offerNotice (.lineCleared (if s.lc.clearDrive.isSome then .self else .line) s.now) with
      ct := [], pr := { s.pr with records := s.pr.records.map PeerRecord.cleared }, lc := s.lc.atClear } := by
  have hoffer := offerNotice_congr (s := s)
    (t := ((s.onCt fun _ => []).onPr fun p => { p with records := p.records.map PeerRecord.cleared }).onLc LineController.atClear)
    (.lineCleared (if s.lc.clearDrive.isSome then .self else .line) s.now) rfl rfl
  obtain ⟨hau, hrp⟩ := hoffer
  simp only [State.lineClear, hj, Bool.false_eq_true, if_false]
  apply State.eq_of_blocks <;> simp [hau, hrp]

/-- In JOINING and RUNNING the RETIRING entries leave besides, the other claims are held, JOINING is entered, and the acknowledge wait
runs (R36, R95, R164, R165). -/
theorem lineClear_joined (hj : s.joined = true) : s.lineClear =
    { s.offerNotice (.lineCleared (if s.lc.clearDrive.isSome then .self else .line) s.now) with
      ct := []
      pr := { s.pr with records := s.pr.records.map PeerRecord.cleared, freshOwed := true, firstFresh := none }
      pe := { s.pe with joining := .joining, joiningStart := none, joiningEnd := none }
      book := bookAtClear s.book
      lc := { s.lc.atClear with
        queue := [⟨.beacon, s.lc.nextAsk⟩]
        nextAsk := s.lc.nextAsk + 1
        ack := .awaiting (later s.now 2000) } } := by
  let held := (((s.onCt fun _ => []).onPr fun p => { p with records := p.records.map PeerRecord.cleared }).onLc LineController.atClear).onBook
    bookAtClear
  have hoffer := offerNotice_congr (s := s) (t := held.enterJoining)
    (.lineCleared (if s.lc.clearDrive.isSome then .self else .line) s.now) (by simp [held]) (by simp [held])
  obtain ⟨hau, hrp⟩ := hoffer
  have hlc : held.enterJoining.lc = { s.lc.atClear with queue := [⟨.beacon, s.lc.nextAsk⟩], nextAsk := s.lc.nextAsk + 1 } :=
    askBeacon_of_empty rfl
  have hclear : s.lineClear = (held.enterJoining.offerNotice (.lineCleared (if s.lc.clearDrive.isSome then .self else .line) s.now)).onLc
      fun l => { l with ack := .awaiting (later s.now Config.acknowledgeWait) } := by
    simp only [State.lineClear, hj, if_true, held]
  rw [hclear]
  apply State.eq_of_blocks
  case h11 => simp [hlc, Config.acknowledgeWait]
  case h13 => simpa using hau
  case h14 => simpa using hrp
  all_goals simp [held, State.enterJoining]

/-- Settles O46: the event comes about at 64 bit times alone, and its effect by whether the part is joined. -/
theorem lineClear : Obligations.LineClear := by
  refine ⟨fun s h => ?_, fun s start hw hd hs hdist => ?_⟩
  · have hnot : s.clearDue = false := by
      rw [Bool.eq_false_iff, ne_eq, clearDue_iff]
      rintro ⟨hd, start, hs, hdist⟩
      rcases h with h | h
      · rw [hd] at h
        cases h
      · exact absurd (h start hs) (by omega)
    unfold exec execLineClearDetected
    exact occurs_of_disabled (by simp [hnot]) _ s
  · intro report records line
    have hline : s.lc.atClear = line := LineController.atClear_eq s.lc
    have hdue := clearDue_iff.mpr ⟨hd, start, hs, hdist⟩
    refine ⟨s.lineClear.settle, ?_, fun hj => ?_, fun hj => ?_⟩
    · unfold exec execLineClearDetected
      exact occurs_of_enabled (by simp [hw, hdue]) _ s
    · rw [← hline]
      exact lineClear_unjoined hj ▸ settle_follows s.lineClear
    · rw [← hline]
      have hbook : bookAtClear s.book = (s.book.filter (·.state ≠ .retiring)).map fun e => { e with held := true } := by
        rw [bookAtClear, standing_eq]
      have hclear := lineClear_joined hj
      rw [hbook] at hclear
      exact hclear ▸ settle_follows s.lineClear

end Sys2Proof.Machine
end

section
/-! O8: the laws of the part hold after reset. -/

namespace Sys2Proof.Machine

open Sys2Proof

variable {sa : Station} {fb : Bool}

/-- After reset the part is as the release of the reset pin leaves it. -/
theorem afterReset_eq_release : State.afterReset sa fb = (State.afterReset sa fb).releaseReset sa := rfl

theorem afterReset_atRest : (State.afterReset sa fb).AtRest := releaseReset_atRest (s := State.afterReset sa fb) sa

theorem afterReset_peerLaw : (State.afterReset sa fb).PeerLaw := by
  have hrecords : (State.afterReset sa fb).pr.records = (allStations.filter (· ≠ sa)).map PeerRecord.fresh := rfl
  refine ⟨?_, fun r hr => ?_⟩
  · rw [hrecords, List.map_map]
    exact List.map_id _
  · rw [hrecords] at hr
    obtain ⟨st, -, rfl⟩ := List.mem_map.mp hr
    simp [PeerRecord.fresh]

theorem afterReset_lineLaw : (State.afterReset sa fb).LineLaw := by
  refine lineLaw_iff.mpr (.of_no_clear ⟨rfl, rfl⟩ (fun n hn => ?_) nofun)
  cases hn
  decide

theorem afterReset_holdLaw : (State.afterReset sa fb).HoldLaw := by
  have hflag : Alarm.clearUnacked.inSet 0#11 = false := Alarm.inSet_zero _
  simp [State.HoldLaw, State.afterReset, AlarmUnit.holdRule, hflag]

/-- Settles O8: the blocks that hold something are PR and the ring, and the rest is empty, stopped or low. -/
theorem lawsAtReset : Obligations.LawsAtReset := by
  refine ⟨rfl, fun sa fb => ⟨rfl, afterReset_holdLaw, afterReset_atRest.bookLaw, ⟨Nat.zero_le _, rfl, rfl⟩, afterReset_atRest.queueLaw, afterReset_peerLaw,
    ⟨.nil, fun _ => Nat.zero_le _, nofun⟩, quietLaw_iff.mpr fun _ => afterReset_atRest,
    meterLaw_iff.mpr (releaseReset_metered (s := State.afterReset sa fb) sa), afterReset_atRest.placementLaw, rfl, afterReset_lineLaw⟩⟩

end Sys2Proof.Machine
end

section
/-! O13: the fields of SETUP, SUBMIT and a received claim, as clamped. -/

namespace Sys2Proof.Machine

open Sys2Proof

/-! ## Clamping -/

/-- A clamp raises to its lower end first or last, alike (R14, R199). -/
theorem clampNat_eq_max {lo hi : Nat} (h : lo ≤ hi) (n : Nat) : clampNat lo hi n = max lo (min hi n) := by
  unfold clampNat
  omega

theorem clampNat_zero (hi n : Nat) : clampNat 0 hi n = min hi n := by rw [clampNat, Nat.zero_max]

/-- A clamp changes nothing above a lower end that no value lies below. -/
theorem clampNat_of_le {lo hi n : Nat} (h : lo ≤ n) : clampNat lo hi n = min hi n := by rw [clampNat, Nat.max_eq_right h]

/-- A clamp changes nothing under an upper end that no value passes. -/
theorem clampNat_of_ge {lo hi n : Nat} (hlo : lo ≤ hi) (h : n ≤ hi) : clampNat lo hi n = max lo n := by
  rw [clampNat, Nat.min_eq_right (Nat.max_le.mpr ⟨hlo, h⟩)]

theorem changedFields_append (l m : List (Nat × Bool)) : changedFields (l ++ m) = changedFields l ++ changedFields m := by
  simp [changedFields]

/-- The changed fields of a list are those of its first, then those of the rest. -/
theorem changedFields_cons (x y : Nat × Bool) (l : List (Nat × Bool)) :
    changedFields (x :: y :: l) = changedFields [x] ++ changedFields (y :: l) := changedFields_append [x] (y :: l)

/-- A field that is reported when a condition holds. -/
theorem changedFields_single (no : Nat) (p : Prop) [Decidable p] : changedFields [(no, decide p)] = if p then [no] else [] := by
  by_cases h : p <;> simp [changedFields, h]

theorem changedFields_ne (no a b : Nat) : changedFields [(no, decide (a ≠ b))] = if b = a then [] else [no] := by
  rw [changedFields_single]
  by_cases h : b = a
  · simp [h]
  · rw [if_neg h, if_pos (Ne.symm h)]

theorem takeClamped_value (no lo hi n : Nat) : (takeClamped no lo hi n).value = clampNat lo hi n := rfl

theorem takeClamped_clamped (no lo hi n : Nat) :
    (takeClamped no lo hi n).clamped = changedFields [(no, clampNat lo hi n ≠ n)] := (changedFields_ne no _ _).symm

/-! ## Codes -/

theorem powerOf_val (n : Nat) : (powerOf n).val = min 3 n := by
  unfold powerOf
  split
  case isTrue h => exact (Nat.min_eq_right (Nat.le_of_lt_succ h)).symm
  case isFalse h => exact (Nat.min_eq_left (by omega)).symm

/-- A power class is changed by its clamp when it is above 3. -/
theorem powerOf_val_ne_iff {n : Nat} : (powerOf n).val ≠ n ↔ 3 < n := by
  rw [powerOf_val]
  omega

/-- The class of a number is the one at its place, the last for all above (R14, R67). -/
theorem ofNumber_eq (n : Nat) :
    [PriorityClass.bulk, .normal, .link, .stream, .critical][min 4 n]? = some (PriorityClass.ofNumber n) :=
  match n with
  | 0 | 1 | 2 | 3 => rfl
  | n + 4 => by
    rw [Nat.min_eq_left (Nat.le_add_left 4 n)]
    rfl

theorem ofCode_eq : ∀ c : BitVec 2, [Direction.tx, .rx, .txrx, .txrx][c.toNat]? = some (Direction.ofCode c) := by decide

theorem ofCode_eq_tx_iff : ∀ c : BitVec 2, Direction.ofCode c = .tx ↔ c = 0 := by decide

theorem ofCode_eq_rx_iff : ∀ c : BitVec 2, Direction.ofCode c = .rx ↔ c = 1 := by decide

/-! ## The tables and profiles of SETUP -/

/-- Four separations as R170 clamps them. -/
def clampedTable (x : PowerFields) : PowerTable := ⟨min 1000 x.p0.toNat, min 1000 x.p1.toNat, min 1000 x.p2.toNat, min 1000 x.p3.toNat⟩

/-- The fields of a table from field `no` on, with whether each changed. -/
def tableChanges (no : Nat) (v : PowerTable) (x : PowerFields) : List (Nat × Bool) :=
  [(no, v.p0 ≠ x.p0.toNat), (no + 1, v.p1 ≠ x.p1.toNat), (no + 2, v.p2 ≠ x.p2.toNat), (no + 3, v.p3 ≠ x.p3.toNat)]

theorem takePowerTable_value (no : Nat) (x : PowerFields) : (takePowerTable no x).value = clampedTable x := by
  simp [takePowerTable, clampedTable, takeClamped_value, clampNat_zero]

theorem takePowerTable_clamped (no : Nat) (x : PowerFields) :
    (takePowerTable no x).clamped = changedFields (tableChanges no (takePowerTable no x).value x) := by
  simp only [tableChanges, changedFields_cons, takePowerTable, takeClamped_clamped, takeClamped_value, List.append_assoc]

theorem clampedTable_get_le (x : PowerFields) (pc : PowerClass) : (clampedTable x).get pc ≤ 1000 := by
  match pc with
  | 0 | 1 | 2 | 3 => exact Nat.min_le_left _ _

/-- A profile as R170 clamps it, with the epoch length. -/
def clampedProfile (epochLength : Nat) (x : ProfileRecord) : Profile :=
  { share := min 1000 x.share.toNat
    allowance := min epochLength x.allowance.toNat
    fastEnable := x.fastEnable ≠ 0
    fastMax := max 100 (min 5000 x.fastMax.toNat)
    fastMin := max 10 (min (max 100 (min 5000 x.fastMax.toNat)) x.fastMin.toNat)
    guardTime := min 255 x.guardTime.toNat
    vict := clampedTable x.vict
    aggr := clampedTable x.aggr
    same := min 1000 x.same.toNat }

/-- The fields of a profile from field `no` on, with whether each changed. -/
def profileChanges (no : Nat) (v : Profile) (x : ProfileRecord) : List (Nat × Bool) :=
  [(no, decide (v.share ≠ x.share.toNat)), (no + 1, decide (v.allowance ≠ x.allowance.toNat)),
      (no + 3, decide (v.fastMax ≠ x.fastMax.toNat)),
      (no + 4, decide (v.fastMin ≠ x.fastMin.toNat)), (no + 5, decide (v.guardTime ≠ x.guardTime.toNat))] ++
    tableChanges (no + 6) v.vict x.vict ++ tableChanges (no + 10) v.aggr x.aggr ++ [(no + 14, decide (v.same ≠ x.same.toNat))]

/-- The ranges of a profile's fields (R170). -/
def Profile.InRange (epochLength : Nat) (p : Profile) : Prop :=
  p.share ≤ 1000 ∧ p.allowance ≤ epochLength ∧ 100 ≤ p.fastMax ∧ p.fastMax ≤ 5000 ∧
    10 ≤ p.fastMin ∧ p.fastMin ≤ p.fastMax ∧ p.guardTime ≤ 255 ∧ p.same ≤ 1000 ∧ ∀ pc, p.vict.get pc ≤ 1000 ∧ p.aggr.get pc ≤ 1000

theorem takeProfile_value (no epochLength : Nat) (x : ProfileRecord) :
    (takeProfile no epochLength x).value = clampedProfile epochLength x := by
  have hmax : clampNat 100 5000 x.fastMax.toNat = max 100 (min 5000 x.fastMax.toNat) := clampNat_eq_max (by decide) _
  have hmin := clampNat_eq_max (lo := 10) (hi := max 100 (min 5000 x.fastMax.toNat)) (by omega) x.fastMin.toNat
  simp only [takeProfile, clampedProfile, takeClamped_value, takePowerTable_value, clampNat_zero, hmax, hmin]

theorem takeProfile_clamped (no epochLength : Nat) (x : ProfileRecord) :
    (takeProfile no epochLength x).clamped = changedFields (profileChanges no (takeProfile no epochLength x).value x) := by
  simp only [profileChanges, changedFields_append, changedFields_cons, takeProfile, takeClamped_clamped, takeClamped_value,
    takePowerTable_clamped, List.append_assoc]

theorem clampedProfile_inRange (epochLength : Nat) (x : ProfileRecord) : (clampedProfile epochLength x).InRange epochLength := by
  refine ⟨Nat.min_le_left _ _, Nat.min_le_left _ _, Nat.le_max_left _ _, ?_, Nat.le_max_left _ _, ?_, Nat.min_le_left _ _, Nat.min_le_left _ _,
    fun pc => ⟨clampedTable_get_le _ pc, clampedTable_get_le _ pc⟩⟩
  · exact Nat.max_le.mpr ⟨by decide, Nat.min_le_left _ _⟩
  · exact Nat.max_le.mpr ⟨Nat.le_trans (by decide) (Nat.le_max_left _ _), Nat.min_le_left _ _⟩

/-! ## SETUP -/

variable {r : SetupRecord}

/-- The epoch length SETUP leaves, in units clamped into 4 … 64 (R199). -/
def clampedEpoch (r : SetupRecord) : Nat := 1024 * max 4 (min 64 r.epochUnits.toNat)

theorem units_epoch (r : SetupRecord) : clampNat 4 64 r.epochUnits.toNat * 1024 = clampedEpoch r := by
  rw [clampNat_eq_max (by decide), Nat.mul_comm]
  rfl

/-- The fast span of SETUP lies in the band, its high within 1,000 MHz above its low (R131). -/
theorem takeSetupFast_span (r : SetupRecord) : (takeSetupFast r).value.span =
    ⟨max 2400 (min 8500 r.fastLow.toNat), max (max 2400 (min 8500 r.fastLow.toNat))
      (min (max 2400 (min 8500 r.fastLow.toNat) + 1000) (max 2400 (min 8500 r.fastHigh.toNat)))⟩ := by
  simp only [takeSetupFast, takeClamped_value, spanLeast, spanGreatest, spanWidth, clampNat_eq_max (show 2400 ≤ 8500 by decide)]
  rw [clampNat_eq_max (Nat.le_add_right _ _)]

theorem takeSetupFast_power (r : SetupRecord) : (takeSetupFast r).value.power = powerOf r.fastPower.toNat := rfl

/-- The fast fields of SETUP: the span as clamped, with their own power class. -/
theorem takeSetupFast_eq (r : SetupRecord) : (takeSetupFast r).value =
    ⟨⟨max 2400 (min 8500 r.fastLow.toNat), max (max 2400 (min 8500 r.fastLow.toNat))
      (min (max 2400 (min 8500 r.fastLow.toNat) + 1000) (max 2400 (min 8500 r.fastHigh.toNat)))⟩, (takeSetupFast r).value.power⟩ := by
  rw [← takeSetupFast_span]

theorem takeSetupFast_clamped (r : SetupRecord) : (takeSetupFast r).clamped = changedFields
    [(7, (takeSetupFast r).value.span.low ≠ r.fastLow.toNat), (8, (takeSetupFast r).value.span.high ≠ r.fastHigh.toNat),
      (9, (takeSetupFast r).value.power.val ≠ r.fastPower.toNat)] := by
  rw [changedFields_cons, changedFields_cons, changedFields_ne 8, takeSetupFast_power]
  simp only [powerOf_val_ne_iff, changedFields_single 9, ← List.append_assoc]
  rw [takeSetupFast, takeClamped_clamped]
  rfl

theorem takeSetup_value (r : SetupRecord) : (takeSetup r).value =
    { lead := max 200 (min 20000 r.lead.toNat)
      epochLength := clampedEpoch r
      debounce := min 15 r.debounce.toNat
      grace := r.grace.toNat
      alertMask := r.alertMask.setWidth 11
      holdMask := r.holdMask.setWidth 11
      fast := (takeSetupFast r).value
      initial := if r.initial = 1 then .b else .a
      profileA := clampedProfile (clampedEpoch r) r.profileA
      profileB := clampedProfile (clampedEpoch r) r.profileB } := by
  simp only [takeSetup, takeClamped_value, takeProfile_value, units_epoch, clampNat_zero, clampNat_eq_max (show 200 ≤ 20000 by decide), flagSetOf]

/-- The units are changed by their clamp when the epoch length is. -/
theorem units_ne_iff : clampNat 4 64 r.epochUnits.toNat ≠ r.epochUnits.toNat ↔ clampedEpoch r ≠ 1024 * r.epochUnits.toNat := by
  rw [← units_epoch]
  omega

theorem takeSetup_clamped (r : SetupRecord) : (takeSetup r).clamped = changedFields
    ([(1, decide ((takeSetup r).value.lead ≠ r.lead.toNat)), (2, decide ((takeSetup r).value.epochLength ≠ 1024 * r.epochUnits.toNat)),
        (3, decide ((takeSetup r).value.debounce ≠ r.debounce.toNat)), (7, decide ((takeSetup r).value.fast.span.low ≠ r.fastLow.toNat)),
        (8, decide ((takeSetup r).value.fast.span.high ≠ r.fastHigh.toNat)),
        (9, decide ((takeSetup r).value.fast.power.val ≠ r.fastPower.toNat)),
        (10, decide (r.initial ≠ 0 ∧ r.initial ≠ 1))] ++
      profileChanges 11 (takeSetup r).value.profileA r.profileA ++ profileChanges 26 (takeSetup r).value.profileB r.profileB) := by
  have hunits : (takeClamped 2 4 64 r.epochUnits.toNat).clamped =
      changedFields [(2, decide ((takeSetup r).value.epochLength ≠ 1024 * r.epochUnits.toNat))] := by
    simp only [takeClamped_clamped, takeSetup_value, units_ne_iff]
  have hinitial : (if r.initial = 0 || r.initial = 1 then ([] : List Nat) else [10]) =
      changedFields [(10, decide (r.initial ≠ 0 ∧ r.initial ≠ 1))] := by
    rw [changedFields_single]
    simp [← not_or]
  calc (takeSetup r).clamped
    _ = (takeClamped 1 200 20000 r.lead.toNat).clamped ++ (takeClamped 2 4 64 r.epochUnits.toNat).clamped ++
          (takeClamped 3 0 15 r.debounce.toNat).clamped ++ (takeSetupFast r).clamped ++
          (if r.initial = 0 || r.initial = 1 then ([] : List Nat) else [10]) ++
          (takeProfile 11 (clampNat 4 64 r.epochUnits.toNat * 1024) r.profileA).clamped ++
          (takeProfile 26 (clampNat 4 64 r.epochUnits.toNat * 1024) r.profileB).clamped := rfl
    _ = _ := by
      rw [hunits, hinitial, takeProfile_clamped, takeProfile_clamped, takeSetupFast_clamped, takeClamped_clamped, takeClamped_clamped]
      simp only [changedFields_append, changedFields_cons, List.append_assoc]
      rfl

theorem takeSetup_profiles_inRange (r : SetupRecord) : ∀ p ∈ [(takeSetup r).value.profileA, (takeSetup r).value.profileB],
    p.InRange (takeSetup r).value.epochLength := by
  rw [takeSetup_value]
  simp [clampedProfile_inRange]

/-- Every field SETUP leaves outside the profiles lies in its range (R131, R199). -/
theorem takeSetup_inRange (r : SetupRecord) : let f := (takeSetup r).value
    200 ≤ f.lead ∧ f.lead ≤ 20000 ∧ 4096 ≤ f.epochLength ∧ f.epochLength ≤ 65536 ∧ 1024 ∣ f.epochLength ∧ f.debounce ≤ 15 ∧ f.grace ≤ 255 ∧
    2400 ≤ f.fast.span.low ∧ f.fast.span.low ≤ f.fast.span.high ∧
    f.fast.span.high ≤ f.fast.span.low + 1000 ∧ f.fast.span.high ≤ 8500 := by
  have hgrace : r.grace.toNat ≤ 255 := Nat.le_of_lt_succ r.grace.isLt
  simp only [takeSetup_value, takeSetupFast_span, clampedEpoch]
  refine ⟨Nat.le_max_left _ _, ?_, ?_, ?_, Nat.dvd_mul_right _ _, Nat.min_le_left _ _, hgrace, Nat.le_max_left _ _, Nat.le_max_left _ _,
    ?_, ?_⟩ <;> omega

/-! ## SUBMIT -/

section
variable (r : SubmitRecord)

theorem takeSubmit_duration : (takeSubmit r).value.duration = max 10 r.duration.toNat :=
  clampNat_of_ge (by decide) (Nat.le_of_lt_succ r.duration.isLt)

theorem takeSubmit_low : (takeSubmit r).value.low = max 2400 (min 8500 r.low.toNat) := clampNat_eq_max (by decide) _

theorem takeSubmit_high : (takeSubmit r).value.high = max 2400 (min 8500 r.high.toNat) := clampNat_eq_max (by decide) _

theorem takeSubmit_minDuration : (takeSubmit r).value.minDuration =
    r.minDuration.map fun m => max 10 (min (max 10 r.duration.toNat) m.toNat) := by
  have taken : (takeSubmit r).value.minDuration = (takeMinDuration (takeSubmit r).value.duration r.minDuration).value := rfl
  rw [taken, takeSubmit_duration]
  cases r.minDuration with
  | none => rfl
  | some m => exact congrArg some (clampNat_eq_max (Nat.le_max_left _ _) _)

theorem takeSubmit_power : (takeSubmit r).value.power = if (takeSubmit r).value.dir = .rx then 0 else powerOf r.power.toNat := rfl

/-- RX takes power class 0, the others the class given, 3 for one above it (R14). -/
theorem takeSubmit_power_val : (takeSubmit r).value.power.val = if (takeSubmit r).value.dir = .rx then 0 else min 3 r.power.toNat := by
  rw [takeSubmit_power]
  split
  · rfl
  · exact powerOf_val _

theorem takeSubmit_power_of_rx (h : (takeSubmit r).value.dir = .rx) : (takeSubmit r).value.power = 0 := by
  rw [takeSubmit_power, if_pos h]

/-- The power class is clamped when it is above 3, and never with RX (R14, field 11). -/
theorem takeSubmit_power_clamped : (if !decide (Direction.ofCode r.dir = .rx) && decide (3 < r.power.toNat) then ([11] : List Nat) else []) =
    changedFields [(11, decide ((takeSubmit r).value.dir ≠ .rx ∧ (takeSubmit r).value.power.val ≠ r.power.toNat))] := by
  have hdir : (takeSubmit r).value.dir = Direction.ofCode r.dir := rfl
  rw [changedFields_single, takeSubmit_power, hdir]
  by_cases hrx : Direction.ofCode r.dir = .rx
  · simp [hrx]
  · simp only [hrx, if_false, powerOf_val_ne_iff, decide_false, Bool.not_false, Bool.true_and, decide_eq_true_eq, ne_eq, not_false_iff, true_and]

/-- A min duration is reported when its clamp changed it (R14, field 13). -/
theorem takeMinDuration_clamped (duration : Nat) (m : Option (BitVec 16)) : (takeMinDuration duration m).clamped =
    changedFields [(13, (takeMinDuration duration m).value ≠ m.map BitVec.toNat)] := by
  cases m with
  | none => rfl
  | some m => simp only [takeMinDuration, takeClamped_clamped, Option.map_some, ne_eq, Option.some.injEq]

theorem takeSubmit_clamped : (takeSubmit r).clamped = changedFields
    [(4, (takeSubmit r).value.duration ≠ r.duration.toNat), (8, r.dir = 3), (9, (takeSubmit r).value.low ≠ r.low.toNat),
      (10, (takeSubmit r).value.high ≠ r.high.toNat),
      (11, (takeSubmit r).value.dir ≠ .rx ∧ (takeSubmit r).value.power.val ≠ r.power.toNat), (12, 4 < r.cls.toNat),
      (13, (takeSubmit r).value.minDuration ≠ r.minDuration.map BitVec.toNat)] := by
  calc (takeSubmit r).clamped
    _ = (takeClamped 4 10 65535 r.duration.toNat).clamped ++ (if r.dir = 3 then [8] else []) ++
          (takeClamped 9 spanLeast spanGreatest r.low.toNat).clamped ++ (takeClamped 10 spanLeast spanGreatest r.high.toNat).clamped ++
          (if !decide (Direction.ofCode r.dir = .rx) && decide (3 < r.power.toNat) then [11] else []) ++
          (if 4 < r.cls.toNat then [12] else []) ++ (takeMinDuration (takeSubmit r).value.duration r.minDuration).clamped := rfl
    _ = _ := by
      rw [takeSubmit_power_clamped, takeMinDuration_clamped, ← changedFields_single, ← changedFields_single]
      simp only [takeClamped_clamped, changedFields_cons, List.append_assoc]
      rfl

/-- The request SUBMIT leaves, but for direction, power class and class (R14). -/
theorem takeSubmit_value : (takeSubmit r).value =
    { tag := r.tag
      startOffset := r.startOffset.toNat
      duration := max 10 r.duration.toNat
      slack := r.slack.toNat
      period := if r.periodic then some r.period.toNat else none
      count := if r.periodic then r.count.toNat else 1
      dir := (takeSubmit r).value.dir
      low := max 2400 (min 8500 r.low.toNat)
      high := max 2400 (min 8500 r.high.toNat)
      power := (takeSubmit r).value.power
      cls := (takeSubmit r).value.cls
      minDuration := r.minDuration.map fun m => max 10 (min (max 10 r.duration.toNat) m.toNat) } := by
  rw [← takeSubmit_minDuration, ← takeSubmit_duration, ← takeSubmit_low, ← takeSubmit_high]
  rfl

end

/-! ## A received claim -/

section
variable (st : Station) (b : ClaimBody) (latch : Time)

/-- The ranges a received claim is held to once its frequencies are clamped (R67). -/
def GoodClaim (b : ClaimBody) : Prop :=
  min 8500 (2400 + b.low.toNat) ≤ min 8500 (2400 + b.high.toNat) ∧
    min 8500 (2400 + b.high.toNat) ≤ min 8500 (2400 + b.low.toNat) + 1000 ∧
    10 ≤ b.window.toNat ∧ b.window.toNat ≤ 131070 ∧ -131070 ≤ b.anchorOffset.toInt ∧ b.anchorOffset.toInt ≤ 4000000 ∧
    (b.period = 0 ∨ 100 ≤ b.period.toNat ∧ b.period.toNat ≤ 1000000 ∧ b.window.toNat < b.period.toNat)

/-- The entry a good claim gives (R67). -/
def claimEntryOf : ClaimEntry :=
  { station := st
    tag := b.tag
    cls := PriorityClass.ofNumber b.cls.toNat
    dir := Direction.ofCode b.dir
    power := powerOf b.power.toNat
    low := min 8500 (2400 + b.low.toNat)
    high := min 8500 (2400 + b.high.toNat)
    window := b.window.toNat
    period := if b.period = 0 then none else some b.period.toNat
    remaining := if b.period = 0 then some 1 else if b.remaining = 0 then none else some b.remaining.toNat
    anchorLocal := latch
    anchorOffset := b.anchorOffset.toInt
    lastAnnouncement := latch
    lease := latch
    expiry := none }

/-- A claim carries its frequencies as distances above 2,400 MHz, so its clamp acts from above only (R67, R201). -/
theorem clampNat_span (n : Nat) : clampNat spanLeast spanGreatest (n + spanLeast) = min 8500 (2400 + n) := by
  rw [clampNat_of_le (Nat.le_add_left _ _), Nat.add_comm]
  rfl

variable {b}

theorem period_eq_zero_iff : b.period.toNat = 0 ↔ b.period = 0 := by bv_omega

/-- A claim that is not good fails one of the checks, in the order the part makes them. -/
theorem not_goodClaim_iff : ¬ GoodClaim b ↔
    (¬ spanTaken (min 8500 (2400 + b.low.toNat)) (min 8500 (2400 + b.high.toNat)) = true ∨ b.window.toNat < 10 ∨ 131070 < b.window.toNat ∨
      b.anchorOffset.toInt < -131070 ∨ 4000000 < b.anchorOffset.toInt ∨
      ¬ (b.period.toNat = 0 ∨ 100 ≤ b.period.toNat ∧ b.period.toNat ≤ 1000000 ∧ b.window.toNat < b.period.toNat)) := by
  simp only [spanTaken_iff, period_eq_zero_iff, GoodClaim, tsub_le_iff_left, ← not_le, ← not_and_or, and_assoc]

/-- The part refuses a received claim exactly when it is not good (R67). -/
theorem takeClaim_eq_ite [Decidable (GoodClaim b)] :
    takeClaim st b latch = if ¬ GoodClaim b then none else some (claimEntryOf st b latch) := by
  simp only [not_goodClaim_iff, takeClaim, claimEntryOf, clampNat_span, period_eq_zero_iff]
  congr 1
  simp [or_assoc, imp_iff_not_or]

theorem takeClaim_of_not_good (h : ¬ GoodClaim b) : takeClaim st b latch = none := by
  classical rw [takeClaim_eq_ite, if_pos h]

theorem takeClaim_of_good (h : GoodClaim b) : takeClaim st b latch = some (claimEntryOf st b latch) := by
  classical rw [takeClaim_eq_ite, if_neg (not_not.mpr h)]

end

/-- Settles O13: the fields of SETUP, SUBMIT and a received claim are the clamps of what was written, and in range. -/
theorem fieldsInRange : Obligations.FieldsInRange := by
  unfold Obligations.FieldsInRange
  intro clamp
  refine ⟨fun v => ⟨rfl, rfl, rfl, rfl⟩, fun r => ?_, fun r => ?_, fun st b latch => ?_⟩
  · obtain ⟨leadLeast, leadMost, epochLeast, epochMost, epochUnits, debounce, grace, lowLeast, order, width, highMost⟩ := takeSetup_inRange r
    refine ⟨leadLeast, leadMost, epochLeast, epochMost, epochUnits, debounce, grace, lowLeast, order, width, highMost,
      takeSetup_profiles_inRange r, ?_, ?_, takeSetup_clamped r⟩
    · exact (takeSetup_value r).trans (by rw [takeSetupFast_eq, takeSetup_value]; rfl)
    · rw [takeSetup_value, takeSetupFast_power, powerOf_val]
  · have hlow := takeSubmit_low r
    have hhigh := takeSubmit_high r
    refine ⟨takeSubmit_inRange r, ?_, ?_, ?_, ?_, takeSubmit_power_of_rx r, takeSubmit_value r, ofCode_eq r.dir, takeSubmit_power_val r,
      ofNumber_eq r.cls.toNat, takeSubmit_clamped r⟩ <;> omega
  · refine ⟨takeClaim_of_not_good st latch, fun h => ⟨_, takeClaim_of_good st latch h, rfl, ofNumber_eq _, ?_,
      ofCode_eq_tx_iff _, ofCode_eq_rx_iff _⟩⟩
    exact (powerOf_val _).trans (Nat.min_eq_right (Nat.le_of_lt_succ b.power.isLt))

end Sys2Proof.Machine
end

section
/-! SUPPORT. The laws of the peer records and of the claim table, part by part, and the relation of two states by which every command keeps
them. -/

namespace Sys2Proof.Machine

open Sys2Proof

variable {s t u : State} {r : PeerRecord}

/-! ## The law of one record -/

/-- The fields of a record lie in range, and it holds the deadlines its state asks for (R39–R42). -/
structure PeerRecord.Lawful (r : PeerRecord) : Prop where
  drift_ge : -3200 ≤ r.drift
  drift_le : r.drift ≤ 3200
  driftCount : r.driftCount ≤ 8
  credit_ge : -1000 ≤ r.credit
  credit_le : r.credit ≤ 1000
  mismatch : r.mismatch ≤ 1
  quiet : r.quietDeadline.isSome ↔ r.state = .live
  lost : r.lostDeadline.isSome ↔ r.state = .live ∨ r.state = .quiet

theorem peerLaw_iff : s.PeerLaw ↔
    s.pr.records.map (·.station) = allStations.filter (· ≠ s.station) ∧ ∀ r ∈ s.pr.records, r.Lawful :=
  and_congr_right fun _ => forall₂_congr fun _ _ =>
    ⟨fun ⟨h1, h2, h3, h4, h5, h6, h7, h8⟩ => ⟨h1, h2, h3, h4, h5, h6, h7, h8⟩,
      fun ⟨h1, h2, h3, h4, h5, h6, h7, h8⟩ => ⟨h1, h2, h3, h4, h5, h6, h7, h8⟩⟩

namespace PeerRecord.Lawful

theorem heard (h : r.Lawful) (latch : Time) (timeout : Nat) : (r.heard latch timeout).Lawful :=
  { h with quiet := by simp [PeerRecord.heard], lost := by simp [PeerRecord.heard] }

theorem toQuiet (h : r.Lawful) (hl : r.state = .live) : r.quiet.Lawful :=
  { h with
    quiet := by simp [PeerRecord.quiet]
    lost := by simpa [PeerRecord.quiet, hl] using h.lost }

theorem toLost (h : r.Lawful) : r.lost.Lawful :=
  { h with driftCount := Nat.zero_le _, mismatch := Nat.zero_le _, quiet := by simp [PeerRecord.lost], lost := by simp [PeerRecord.lost] }

theorem restarted (h : r.Lawful) : r.restarted.Lawful := { h with driftCount := Nat.zero_le _, mismatch := Nat.zero_le _ }

theorem cleared (h : r.Lawful) : r.cleared.Lawful where
  drift_ge := h.drift_ge
  drift_le := h.drift_le
  driftCount := Nat.zero_le _
  credit_ge := by simp [PeerRecord.cleared, PeerRecord.fresh]
  credit_le := by simp [PeerRecord.cleared, PeerRecord.fresh]
  mismatch := Nat.zero_le _
  quiet := by simp [PeerRecord.cleared, PeerRecord.fresh]
  lost := by simp [PeerRecord.cleared, PeerRecord.fresh]

theorem withFields (h : r.Lawful) (b : BeaconBody) : (r.withFields b).Lawful :=
  { h with
    credit_ge := le_max_left _ _
    credit_le := max_le (by decide) (min_le_left _ _) }

theorem setMismatch (h : r.Lawful) {n : Nat} (hn : n ≤ 1) : { r with mismatch := n }.Lawful := { h with mismatch := hn }

end PeerRecord.Lawful

/-- A sample is clamped into the range of D (R54). -/
theorem driftSample_range (diff : Int) (delta : Nat) : -3200 ≤ driftSample diff delta ∧ driftSample diff delta ≤ 3200 :=
  ⟨le_max_left _ _, max_le (by decide) (min_le_left _ _)⟩

/-- A truncated quarter of a difference lies between 0 and the difference, and is the quarter rounded toward 0. -/
theorem tdiv_four_bounds (x : Int) : min 0 x ≤ x.tdiv 4 ∧ x.tdiv 4 ≤ max 0 x ∧ 4 * (x.tdiv 4).natAbs ≤ x.natAbs ∧
    x.natAbs < 4 * ((x.tdiv 4).natAbs + 1) := by
  rcases Int.le_total 0 x with h | h
  · rw [Int.tdiv_eq_ediv_of_nonneg h]
    omega
  · have : x.tdiv 4 = -((-x) / 4) := by rw [← Int.tdiv_eq_ediv_of_nonneg (by omega), Int.neg_tdiv, neg_neg]
    rw [this]
    omega

/-- D after a sample: the sample itself at the first of a run, a truncated quarter of the way toward it later (R54). -/
theorem PeerRecord.Lawful.filterDrift (h : r.Lawful) {d : Int} (hd : -3200 ≤ d ∧ d ≤ 3200) : (r.filterDrift d).Lawful := by
  obtain ⟨hlo, hhi⟩ := hd
  have hge := h.drift_ge
  have hle := h.drift_le
  obtain ⟨b1, b2, -, -⟩ := tdiv_four_bounds (d - r.drift)
  have key : -3200 ≤ (r.filterDrift d).drift ∧ (r.filterDrift d).drift ≤ 3200 := by
    unfold PeerRecord.filterDrift
    dsimp only
    split <;> omega
  exact { h with drift_ge := key.1, drift_le := key.2, driftCount := min_le_left _ _ }

namespace PeerRecord.Lawful

theorem judgeStep (h : r.Lawful) (delta : Nat) (diff : Int) : (r.judgeStep delta diff).Lawful := by
  unfold PeerRecord.judgeStep
  split
  · exact { h with driftCount := Nat.zero_le _ }
  · split
    · exact { h with driftCount := Nat.zero_le _ }
    · exact h.filterDrift (driftSample_range diff delta)

theorem takeOffset (h : r.Lawful) (o : Int) (latch : Time) : (r.takeOffset o latch).Lawful := by
  have stored : ∀ x : PeerRecord, x.Lawful → { x with lastOffset := some o, offsetLatch := some latch }.Lawful := fun _ hx => { hx with }
  unfold PeerRecord.takeOffset
  split
  · exact stored _ (h.judgeStep _ _)
  · exact stored _ h

end PeerRecord.Lawful

/-! ## The law of the claim table -/

/-- The key of a claim entry: its station and tag (R66). -/
def ClaimEntry.key (c : ClaimEntry) : Station × Tag := (c.station, c.tag)

/-- A record of the station is LIVE or QUIET (R66). -/
def State.Hears (s : State) (st : Station) : Prop := ∃ r ∈ s.pr.records, r.station = st ∧ (r.state = .live ∨ r.state = .quiet)

/-- The law of the claim table rests on the keys of its entries (R66). -/
theorem claimLaw_iff : s.ClaimLaw ↔ (s.ct.map ClaimEntry.key).Nodup ∧ (∀ st, (s.ct.map ClaimEntry.key).countP (·.1 == st) ≤ 16) ∧
    ∀ k ∈ s.ct.map ClaimEntry.key, k.1 ≠ s.station ∧ s.Hears k.1 := by
  have count : ∀ st, (s.ct.map ClaimEntry.key).countP (·.1 == st) = (s.claimsOf st).length := fun st => by
    rw [List.countP_map, List.countP_eq_length_filter]
    rfl
  simp only [count, List.forall_mem_map]
  rfl

/-- A change of no key, and entries that leave, keep the law while no station of an entry left goes out of hearing (R66). -/
theorem claimLaw_of_sublist (hn : t.station = s.station) (hc : (t.ct.map ClaimEntry.key).Sublist (s.ct.map ClaimEntry.key))
    (heard : ∀ c ∈ t.ct, s.Hears c.station → t.Hears c.station) (h : s.ClaimLaw) : t.ClaimLaw := by
  rw [claimLaw_iff] at h ⊢
  obtain ⟨hnodup, hcount, hall⟩ := h
  refine ⟨hnodup.sublist hc, fun st => (hc.countP_le).trans (hcount st), List.forall_mem_map.mpr fun c hm => ?_⟩
  obtain ⟨hown, hhears⟩ := hall _ (hc.subset (List.mem_map_of_mem hm))
  exact ⟨hn ▸ hown, heard c hm hhears⟩

/-! ## What keeps the laws -/

/-- From `s` to `t` the law of the peer records is kept, and with it that of the claim table. -/
structure State.KeepsPeers (s t : State) : Prop where
  peer : s.PeerLaw → t.PeerLaw
  claim : s.PeerLaw → s.ClaimLaw → t.ClaimLaw

namespace State.KeepsPeers

theorem refl : s.KeepsPeers s := ⟨id, fun _ => id⟩

theorem trans (h : s.KeepsPeers t) (k : t.KeepsPeers u) : s.KeepsPeers u :=
  ⟨fun hp => k.peer (h.peer hp), fun hp hc => k.claim (h.peer hp) (h.claim hp hc)⟩

/-- Claim entries leave, or are changed with their key kept, as other blocks change. -/
theorem of_claims (hc : (t.ct.map ClaimEntry.key).Sublist (s.ct.map ClaimEntry.key)) (hn : t.station = s.station := by simp)
    (hr : t.pr.records = s.pr.records := by simp) : s.KeepsPeers t := by
  refine ⟨fun hp => ?_, fun _ h => claimLaw_of_sublist hn hc (fun c _ hh => ?_) h⟩
  · rwa [State.PeerLaw, hn, hr]
  · rwa [State.Hears, hr]

/-- A change of other blocks. -/
theorem of_same (hn : t.station = s.station := by simp) (hr : t.pr.records = s.pr.records := by simp) (hc : t.ct = s.ct := by simp) :
    s.KeepsPeers t := of_claims (hc ▸ .refl _) hn hr

/-- A change of other blocks after what keeps the laws. -/
theorem then_same (h : s.KeepsPeers t) (hn : u.station = t.station := by simp) (hr : u.pr.records = t.pr.records := by simp)
    (hc : u.ct = t.ct := by simp) : s.KeepsPeers u := h.trans (of_same hn hr hc)

theorem settle (h : s.KeepsPeers t) : s.KeepsPeers t.settle := h.then_same

/-- Records are changed one by one, keeping their station and their law, and the claims of a station no longer heard leave. -/
theorem of_map (f : PeerRecord → PeerRecord) (hr : t.pr.records = s.pr.records.map f) (hc : t.ct.Sublist s.ct)
    (hn : t.station = s.station) (hstation : ∀ r : PeerRecord, (f r).station = r.station)
    (hlaw : s.PeerLaw → ∀ r ∈ s.pr.records, r.Lawful → (f r).Lawful)
    (hheard : ∀ c ∈ t.ct, ∀ r : PeerRecord, r.station = c.station → r.state = .live ∨ r.state = .quiet →
      (f r).state = .live ∨ (f r).state = .quiet) : s.KeepsPeers t := by
  refine ⟨fun h => ?_, fun _ h => claimLaw_of_sublist hn (hc.map _) (fun c hct hh => ?_) h⟩
  · have hkept := hlaw h
    rw [peerLaw_iff] at h ⊢
    obtain ⟨hstations, hlawful⟩ := h
    rw [hr, hn, List.map_map]
    refine ⟨(List.map_congr_left fun r _ => hstation r).trans hstations, List.forall_mem_map.mpr fun r hm => hkept r hm (hlawful r hm)⟩
  · obtain ⟨r, hm, hst, hstate⟩ := hh
    exact ⟨f r, hr ▸ List.mem_map_of_mem hm, (hstation r).trans hst, hheard c hct r hst hstate⟩

/-- The record of a station is changed, keeping its station, its law and that it is heard. -/
theorem of_update {st : Station} {f : PeerRecord → PeerRecord} (hstation : ∀ r : PeerRecord, (f r).station = r.station)
    (hlaw : ∀ r : PeerRecord, r.Lawful → (f r).Lawful)
    (hheard : ∀ r : PeerRecord, r.state = .live ∨ r.state = .quiet → (f r).state = .live ∨ (f r).state = .quiet) :
    s.KeepsPeers (s.updatePeer st f) := by
  refine of_map (fun r => if r.station == st then f r else r) rfl (.refl _) rfl (fun r => ?_) (fun _ r _ h => ?_) fun _ _ r _ h => ?_
  · split
    · exact hstation r
    · rfl
  · split
    · exact hlaw r h
    · exact h
  · split
    · exact hheard r h
    · exact h

end State.KeepsPeers

/-! ## The claim table -/

theorem recomputeExpiry_keys (chosen : ClaimEntry → Bool) :
    ((s.recomputeExpiry chosen).ct.map ClaimEntry.key).Sublist (s.ct.map ClaimEntry.key) := by
  have kept : ∀ c : ClaimEntry, (if chosen c then { c with expiry := s.expiryOf c } else c).key = c.key := fun c => by split <;> rfl
  have keys : (s.ct.map fun c => if chosen c then { c with expiry := s.expiryOf c } else c).map ClaimEntry.key = s.ct.map ClaimEntry.key := by
    rw [List.map_map]
    exact List.map_congr_left fun c _ => kept c
  exact keys ▸ List.filter_sublist.map _

theorem recomputeExpiry_keepsPeers (chosen : ClaimEntry → Bool) : s.KeepsPeers (s.recomputeExpiry chosen) :=
  .of_claims (recomputeExpiry_keys chosen)

theorem removeClaim_keepsPeers (st : Station) (tag : Tag) : s.KeepsPeers (s.removeClaim st tag) := .of_claims (List.filter_sublist.map _)

theorem dropClaims_keepsPeers (st : Station) : s.KeepsPeers (s.dropClaims st) := .of_claims (List.filter_sublist.map _)

theorem removeIfExpired_keepsPeers (c : ClaimEntry) : s.KeepsPeers (s.removeIfExpired c) := by
  unfold State.removeIfExpired
  split
  · exact removeClaim_keepsPeers _ _
  · exact .refl

theorem key_eq_iff {c : ClaimEntry} {st : Station} {tag : Tag} : c.key = (st, tag) ↔ c.station = st ∧ c.tag = tag := Prod.mk_inj

/-- No entry is found by a key that no entry has. -/
theorem findClaim_eq_none_iff {st : Station} {tag : Tag} : s.findClaim st tag = none ↔ (st, tag) ∉ s.ct.map ClaimEntry.key := by
  simp only [State.findClaim, List.find?_eq_none, List.mem_map, not_exists, not_and, key_eq_iff, Bool.and_eq_true, beq_iff_eq]

/-- A choice that keeps the better of the first element and the choice from the rest gives an element as good as each. -/
theorem choice_spec {α : Type} {le : α → α → Bool} {choice : List α → Option α} (total : ∀ a b, le a b = true ∨ le b a = true)
    (trans : ∀ a b c, le a b = true → le b c = true → le a c = true) (nil : choice [] = none)
    (cons : ∀ a l, choice (a :: l) = (choice l).elim (some a) fun b => if le a b then some a else some b) {l : List α} (h : l ≠ []) :
    ∃ a ∈ l, choice l = some a ∧ ∀ b ∈ l, le a b = true := by
  have refl : ∀ a, le a a = true := fun a => (total a a).elim id id
  induction l with
  | nil => exact absurd rfl h
  | cons a l ih =>
    rw [cons]
    by_cases hl : l = []
    · subst hl
      exact ⟨a, List.mem_cons_self, by rw [nil]; rfl, by simpa using refl a⟩
    · obtain ⟨b, hb, he, hall⟩ := ih hl
      rw [he]
      by_cases hab : le a b = true
      · exact ⟨a, List.mem_cons_self, if_pos hab, List.forall_mem_cons.mpr ⟨refl a, fun x hx => trans _ _ _ hab (hall x hx)⟩⟩
      · exact ⟨b, List.mem_cons_of_mem a hb, if_neg hab, List.forall_mem_cons.mpr ⟨(total a b).resolve_left hab, hall⟩⟩

/-- Eviction goes by the last announcement, and then by the tag (R68). -/
theorem evictedBefore_iff {a b : ClaimEntry} : s.evictedBefore a b = true ↔ s.distance a.lastAnnouncement < s.distance b.lastAnnouncement ∨
    s.distance a.lastAnnouncement = s.distance b.lastAnnouncement ∧ a.tag.toNat ≤ b.tag.toNat := by
  simp [State.evictedBefore]

/-- The entry to evict is one of those given, and goes before each of them (R68). -/
theorem evictee_spec {l : List ClaimEntry} (h : l ≠ []) : ∃ c ∈ l, s.evictee l = some c ∧ ∀ d ∈ l, s.evictedBefore c d = true := by
  refine choice_spec (fun a b => ?_) (fun a b c => ?_) rfl (fun a l => ?_) h
  · simp only [evictedBefore_iff]
    omega
  · simp only [evictedBefore_iff]
    omega
  · rw [State.evictee]
    cases s.evictee l <;> rfl

/-- A station with fewer than 16 entries loses none (R68). -/
theorem evict_of_room {st : Station} (h : (s.claimsOf st).length < 16) : s.evict st = s := if_pos h

/-- A station with 16 entries loses the first of them to evict, and VIEW_GAP is raised (R68). -/
theorem evict_of_full {st : Station} (h : ¬ (s.claimsOf st).length < 16) : ∃ c ∈ s.claimsOf st,
    (∀ d ∈ s.claimsOf st, s.evictedBefore c d = true) ∧ s.evict st = (s.removeClaim st c.tag).raiseAlarm .viewGap := by
  have hne : s.claimsOf st ≠ [] := fun hnil => h (by simp [hnil])
  obtain ⟨c, hc, he, hall⟩ := evictee_spec (s := s) hne
  refine ⟨c, hc, hall, ?_⟩
  rw [State.evict, if_neg (by simpa [Config.claimsPerStation] using h), he]

theorem evict_keepsPeers (st : Station) : s.KeepsPeers (s.evict st) := by
  by_cases h : (s.claimsOf st).length < 16
  · rw [evict_of_room h]
    exact .refl
  · obtain ⟨c, -, -, he⟩ := evict_of_full h
    rw [he]
    exact (removeClaim_keepsPeers st c.tag).then_same

/-- An eviction leaves room for one entry of the station (R68). -/
theorem evict_room {st : Station} (h : (s.claimsOf st).length ≤ 16) : ((s.evict st).claimsOf st).length < 16 := by
  by_cases hroom : (s.claimsOf st).length < 16
  · rwa [evict_of_room hroom]
  · obtain ⟨c, hc, -, he⟩ := evict_of_full hroom
    have left : (s.evict st).claimsOf st = (s.claimsOf st).filter fun d => !(d.station == st && d.tag == c.tag) := by
      rw [he, State.claimsOf, (State.raiseAlarm_frame _ _).2.2.2.2.2.2.2.1, State.removeClaim, State.onCt_ct, List.filter_comm]
      rfl
    have hst : c.station = st := by simpa using (List.mem_filter.mp hc).2
    rw [left]
    exact (List.length_filter_lt_length_iff_exists.mpr ⟨c, hc, by simp [hst]⟩).trans_le h

/-- An entry takes the place of the one with its key (R67). -/
theorem putClaim_of_held {c : ClaimEntry} (h : s.findClaim c.station c.tag ≠ none) :
    s.putClaim c = s.onCt (List.map fun d => if d.station == c.station && d.tag == c.tag then c else d) := by
  obtain ⟨old, hf⟩ := Option.ne_none_iff_exists'.mp h
  rw [State.putClaim, hf]

/-- An entry of a new key is added in the room made for it (R67, R68). -/
theorem putClaim_of_new {c : ClaimEntry} (h : s.findClaim c.station c.tag = none) :
    s.putClaim c = (s.evict c.station).onCt fun ct => ct ++ [c] := by
  rw [State.putClaim, h]

/-- An entry of a station that is heard is stored in the place of the entry of its key, or in the room made for it (R66, R68). -/
theorem putClaim_claimLaw {c : ClaimEntry} (hown : c.station ≠ s.station) (hh : s.Hears c.station) (hp : s.PeerLaw) (h : s.ClaimLaw) :
    (s.putClaim c).ClaimLaw := by
  by_cases hf : s.findClaim c.station c.tag = none
  case neg =>
    rw [putClaim_of_held hf]
    have kept : (s.ct.map fun d => if d.station == c.station && d.tag == c.tag then c else d).map ClaimEntry.key = s.ct.map ClaimEntry.key := by
      rw [List.map_map]
      refine List.map_congr_left fun d _ => ?_
      dsimp only [Function.comp]
      split
      · rename_i hd
        simp only [Bool.and_eq_true, beq_iff_eq] at hd
        exact (key_eq_iff.mpr hd).symm
      · rfl
    exact claimLaw_of_sublist (s := s) rfl (by rw [State.onCt_ct, kept]) (fun _ _ => id) h
  case pos =>
    rw [putClaim_of_new hf]
    have kept := (evict_keepsPeers (s := s) c.station).claim hp h
    have hroom := evict_room (h.2.1 c.station)
    have hnew : c.key ∉ (s.evict c.station).ct.map ClaimEntry.key := fun hm => by
      have hsub : ((s.evict c.station).ct.map ClaimEntry.key).Sublist (s.ct.map ClaimEntry.key) := by
        by_cases hr : (s.claimsOf c.station).length < 16
        · rw [evict_of_room hr]
        · obtain ⟨d, -, -, he⟩ := evict_of_full hr
          simpa [he, State.removeClaim] using List.filter_sublist.map ClaimEntry.key
      exact findClaim_eq_none_iff.mp hf (hsub.subset hm)
    have hcount : ((s.evict c.station).ct.map ClaimEntry.key).countP (·.1 == c.station) < 16 := by
      rw [List.countP_map, List.countP_eq_length_filter]
      exact hroom
    rw [claimLaw_iff] at kept ⊢
    obtain ⟨hnodup, hle, hall⟩ := kept
    simp only [State.onCt_ct, List.map_append, List.map_singleton, List.countP_append]
    refine ⟨List.nodup_append.mpr ⟨hnodup, List.nodup_singleton _, fun a ha b hb => ?_⟩, fun st => ?_, fun k hk => ?_⟩
    · rw [List.mem_singleton.mp hb]
      exact fun e => hnew (e ▸ ha)
    · by_cases hst : c.station = st
      · subst hst
        simpa [ClaimEntry.key] using hcount
      · simpa [ClaimEntry.key, hst] using hle st
    · rcases List.mem_append.mp hk with hk | hk
      · exact hall k hk
      · rw [List.mem_singleton.mp hk]
        refine ⟨by simpa [ClaimEntry.key] using hown, ?_⟩
        obtain ⟨r, hr, hst⟩ := hh
        exact ⟨r, by simpa using hr, hst⟩

end Sys2Proof.Machine
end

section
/-! O57: every command keeps the laws of the peer records and of the claim table. -/

namespace Sys2Proof.Machine

open Sys2Proof

variable {s t : State}

/-! ## The frames received -/

/-- With a record for each other station, one is found (R39). -/
theorem exists_record {st : Station} (hp : s.PeerLaw) (hst : st ≠ s.station) : ∃ r ∈ s.pr.records, r.station = st := by
  have all : ∀ st : Station, st ∈ allStations := by decide
  have hm : st ∈ allStations.filter (· ≠ s.station) := List.mem_filter.mpr ⟨all st, by simpa using hst⟩
  rw [← hp.1] at hm
  exact List.mem_map.mp hm

/-- No record is found for a station that none stands for (R39). -/
theorem findPeer_eq_none_iff {st : Station} : s.findPeer st = none ↔ ∀ r ∈ s.pr.records, r.station ≠ st := by
  simp [State.findPeer]

theorem catchUp_keepsPeers : s.KeepsPeers s.catchUp := .of_same

theorem heard_keepsPeers (st : Station) (latch : Time) (timeout : PeerRecord → Nat) :
    s.KeepsPeers (s.updatePeer st fun r => r.heard latch (timeout r)) :=
  .of_update (fun _ => rfl) (fun _ h => h.heard _ _) fun _ _ => .inl rfl

theorem hear_keepsPeers (st : Station) (latch : Time) (timeout : PeerRecord → Nat) : s.KeepsPeers (s.hear st latch timeout) := by
  have heard := heard_keepsPeers (s := s) st latch timeout
  unfold State.hear
  split
  · exact .refl
  · dsimp only
    split
    · exact heard.trans catchUp_keepsPeers
    · exact heard.trans catchUp_keepsPeers
    · exact heard.trans (recomputeExpiry_keepsPeers _)
    · exact heard

/-- The records after a valid frame: the station's are LIVE (R40). -/
theorem hear_records {st : Station} {r : PeerRecord} (hr : s.findPeer st = some r) (latch : Time) (timeout : PeerRecord → Nat) :
    (s.hear st latch timeout).pr = (s.updatePeer st fun r => r.heard latch (timeout r)).pr := by
  unfold State.hear
  rw [hr]
  dsimp only
  split <;> simp

/-- A station whose frame has been taken is heard (R40, R66). -/
theorem hear_hears {st : Station} (hp : s.PeerLaw) (hst : st ≠ s.station) (latch : Time) (timeout : PeerRecord → Nat) :
    (s.hear st latch timeout).Hears st := by
  obtain ⟨x, hx, hxs⟩ := exists_record hp hst
  obtain ⟨r, hr⟩ := Option.ne_none_iff_exists'.mp fun hn => findPeer_eq_none_iff.mp hn x hx hxs
  rw [State.Hears, hear_records hr]
  exact ⟨_, List.mem_map_of_mem hx, by simp [hxs, PeerRecord.heard], by simp [hxs, PeerRecord.heard]⟩

theorem restartCheck_keepsPeers (st : Station) (b : BeaconBody) : s.KeepsPeers (s.restartCheck st b) := by
  unfold State.restartCheck
  split
  · exact .refl
  · split
    · have restarted : s.KeepsPeers (s.updatePeer st PeerRecord.restarted) := .of_update (fun _ => rfl) (fun _ h => h.restarted) fun _ => id
      exact (restarted.trans (dropClaims_keepsPeers st)).trans catchUp_keepsPeers
    · exact .refl

/-- A record keeps its station when an offset sample is judged, and stays as it is heard (R52, R53, R54). -/
theorem takeOffset_station_state (r : PeerRecord) (o : Int) (latch : Time) :
    (r.takeOffset o latch).station = r.station ∧ (r.takeOffset o latch).state = r.state := by
  have judged : ∀ delta diff, (r.judgeStep delta diff).station = r.station ∧ (r.judgeStep delta diff).state = r.state := fun delta diff => by
    unfold PeerRecord.judgeStep
    split
    · exact ⟨rfl, rfl⟩
    · split <;> exact ⟨rfl, rfl⟩
  unfold PeerRecord.takeOffset
  split
  · exact judged _ _
  · exact ⟨rfl, rfl⟩

theorem offsetStep_keepsPeers (st : Station) (b : BeaconBody) (latch : Time) : s.KeepsPeers (s.offsetStep st b latch) := by
  have sampled : s.KeepsPeers (s.updatePeer st fun r => r.takeOffset (offsetOf b latch) latch) :=
    .of_update (fun r => (takeOffset_station_state r _ _).1) (fun _ h => h.takeOffset _ _)
      fun r h => (takeOffset_station_state r (offsetOf b latch) latch).2.symm ▸ h
  unfold State.offsetStep
  split
  · exact .refl
  · dsimp only
    split
    · exact sampled
    · exact sampled.trans (recomputeExpiry_keepsPeers _)

theorem viewCheck_keepsPeers (st : Station) (b : BeaconBody) : s.KeepsPeers (s.viewCheck st b) := by
  have marked : ∀ n ≤ 1, s.KeepsPeers (s.updatePeer st fun r => { r with mismatch := n }) := fun n hn =>
    .of_update (fun _ => rfl) (fun _ h => h.setMismatch hn) fun _ => id
  unfold State.viewCheck
  split
  · exact .refl
  · split
    · exact marked 0 (by decide)
    · split
      · exact marked 1 (by decide)
      · exact .of_same

theorem takeBeacon_keepsPeers (st : Station) (b : BeaconBody) (latch : Time) : s.KeepsPeers (s.takeBeacon st b latch) := by
  have fields : ∀ u : State, u.KeepsPeers (u.updatePeer st fun r => r.withFields b) := fun u =>
    .of_update (fun _ => rfl) (fun _ h => h.withFields b) fun _ => id
  have noted : ∀ u : State, u.KeepsPeers (u.updatePeer st fun r => { r with lastFresh := some b.fresh }) := fun u =>
    .of_update (fun _ => rfl) (fun _ h => { h with }) fun _ => id
  unfold State.takeBeacon
  exact (((((hear_keepsPeers st latch _).trans (restartCheck_keepsPeers st b)).trans (fields _)).trans
    (offsetStep_keepsPeers st b latch)).trans (viewCheck_keepsPeers st b)).trans (noted _)

/-- A claim taken carries the station of its frame (R67). -/
theorem takeClaim_key {st : Station} {b : ClaimBody} {latch : Time} {c : ClaimEntry} (h : takeClaim st b latch = some c) :
    c.station = st ∧ c.tag = b.tag ∧ c.lastAnnouncement = latch := by
  unfold takeClaim at h
  dsimp only at h
  split at h
  · cases h
  · cases h
    exact ⟨rfl, rfl, rfl⟩

/-- The claim of a station that is heard is stored, tested and removed again when it has ended (R66, R67, R71). -/
theorem takeClaimFrame_claimLaw {st : Station} (hst : st ≠ s.station) (hh : s.Hears st) (hp : s.PeerLaw) (h : s.ClaimLaw) (b : ClaimBody)
    (latch : Time) : (s.takeClaimFrame st b latch).ClaimLaw := by
  unfold State.takeClaimFrame
  split
  · exact h
  · rename_i c hc
    obtain ⟨hcs, -, -⟩ := takeClaim_key hc
    subst hcs
    have stored : (s.putClaim (s.withDeadlines c)).ClaimLaw := putClaim_claimLaw hst hh hp h
    have same : (s.putClaim (s.withDeadlines c)).KeepsPeers ((s.putClaim (s.withDeadlines c)).lateTest (s.withDeadlines c)) := .of_same
    have peers : (s.putClaim (s.withDeadlines c)).PeerLaw := by simpa [State.PeerLaw] using hp
    exact (same.trans (removeIfExpired_keepsPeers (s.withDeadlines c))).claim peers stored

theorem takeClaimFrame_keepsPeers {st : Station} (hst : st ≠ s.station) (b : ClaimBody) (latch : Time) (timeout : PeerRecord → Nat) :
    s.KeepsPeers ((s.hear st latch timeout).takeClaimFrame st b latch) := by
  have heard := hear_keepsPeers (s := s) st latch timeout
  refine ⟨fun hp => ?_, fun hp hc => ?_⟩
  · simpa [State.PeerLaw] using heard.peer hp
  · exact takeClaimFrame_claimLaw (by simpa using hst) (hear_hears hp hst latch timeout) (heard.peer hp) (heard.claim hp hc) b latch

/-- A complete frame keeps the laws when its handling does for another station (R159, R161). -/
theorem takeFrame_keepsPeers {st : Station} {handle : Time → State} (h : st ≠ s.station → ∀ latch, s.KeepsPeers (handle latch)) :
    s.KeepsPeers (s.takeFrame st handle) := by
  unfold State.takeFrame
  split
  · exact .settle .of_same
  · rename_i hst
    split
    · exact .refl
    · rename_i latch _
      exact .settle (h hst latch).then_same

/-! ## The deadlines, the line clear and reset -/

/-- A record found is one of PR's, and that of its station (R39). -/
theorem findPeer_some {st : Station} {r : PeerRecord} (h : s.findPeer st = some r) : r ∈ s.pr.records ∧ r.station = st :=
  ⟨List.mem_of_find?_eq_some h, by simpa using List.find?_some h⟩

/-- With one record for each station, the one found is the only one (R39). -/
theorem record_unique {st : Station} {r x : PeerRecord} (hn : (s.pr.records.map (·.station)).Nodup) (hr : s.findPeer st = some r)
    (hx : x ∈ s.pr.records) (hst : x.station = st) : x = r := by
  obtain ⟨hm, hrs⟩ := findPeer_some hr
  exact List.inj_on_of_nodup_map hn hx hm (hst.trans hrs.symm)

theorem records_nodup (hp : s.PeerLaw) : (s.pr.records.map (·.station)).Nodup := by
  have distinct : allStations.Nodup := by decide
  exact hp.1 ▸ distinct.filter _

/-- A due QUIET deadline is that of a LIVE record, the only one of its station (R41). -/
theorem takeQuietDeadline_keepsPeers (st : Station) : s.KeepsPeers (s.takeQuietDeadline st) := by
  unfold State.takeQuietDeadline
  split
  · exact .refl
  · rename_i r hr
    split
    · rename_i hdue
      have hlive : r.state = .live := by
        simp only [State.quietDue, Bool.and_eq_true, beq_iff_eq] at hdue
        exact hdue.1
      have quiet : s.KeepsPeers (s.updatePeer st PeerRecord.quiet) := by
        refine .of_map (fun x => if x.station == st then x.quiet else x) rfl (.refl _) rfl (fun x => ?_) (fun hp x hx hlaw => ?_)
          fun _ _ x _ h => ?_
        · split <;> rfl
        · split
          · rename_i hxs
            exact hlaw.toQuiet (record_unique (records_nodup hp) hr hx (beq_iff_eq.mp hxs) ▸ hlive)
          · exact hlaw
        · split
          · exact .inr rfl
          · exact h
      exact .settle (quiet.trans (recomputeExpiry_keepsPeers _))
    · exact .refl

/-- On entry to LOST the claims of the station leave with its hearing (R42, R66). -/
theorem lost_keepsPeers (st : Station) : s.KeepsPeers ((s.updatePeer st PeerRecord.lost).dropClaims st) := by
  refine .of_map (fun x => if x.station == st then x.lost else x) rfl List.filter_sublist rfl (fun x => ?_) (fun _ x _ hlaw => ?_)
    fun c hc x hxc h => ?_
  · split <;> rfl
  · split
    · exact hlaw.toLost
    · exact hlaw
  · have hne : x.station ≠ st := hxc ▸ by simpa using (List.mem_filter.mp hc).2
    rwa [if_neg (by simpa using hne)]

theorem takeLostDeadline_keepsPeers (st : Station) : s.KeepsPeers (s.takeLostDeadline st) := by
  rcases takeLostDeadline_cases (s := s) st with e | e <;> rw [e]
  · exact .refl
  · exact (lost_keepsPeers st).settle

/-- A line clear sets back every record and empties CT (R57, R164). -/
theorem lineClear_keepsPeers : s.KeepsPeers s.lineClear := by
  have blocks : s.lineClear.pr.records = s.pr.records.map PeerRecord.cleared ∧ s.lineClear.ct = [] := by
    cases hj : s.joined
    · rw [lineClear_unjoined hj]
      exact ⟨rfl, rfl⟩
    · rw [lineClear_joined hj]
      exact ⟨rfl, rfl⟩
  obtain ⟨hr, hc⟩ := blocks
  exact .of_map PeerRecord.cleared hr (hc ▸ List.nil_sublist _) (by simp) (fun _ => rfl) (fun _ _ _ h => h.cleared) fun c hm => by
    rw [hc] at hm
    cases hm

theorem releaseReset_keepsPeers (sa : Station) : s.KeepsPeers (s.releaseReset sa) :=
  ⟨fun _ => afterReset_peerLaw (sa := sa) (fb := s.pins.fb), fun _ _ => ⟨.nil, fun _ => Nat.zero_le _, nofun⟩⟩

theorem judgeWindow_keepsPeers (v : Verdict) : s.KeepsPeers (s.judgeWindow v) := by
  have afresh : ∀ f : Timebase → Timebase, s.KeepsPeers ((s.onTb f).recomputeExpiry fun _ => true) := fun f =>
    .trans (.of_same (t := s.onTb f)) (recomputeExpiry_keepsPeers _)
  have suspect : s.KeepsPeers s.enterSuspect := by
    unfold State.enterSuspect
    exact (afresh fun t => { t with monitor := .clockSuspect, goodRun := 0 }).then_same
  have leave : s.KeepsPeers s.leaveSuspect := by
    unfold State.leaveSuspect
    exact (afresh fun t => { t with monitor := .clockOk, goodRun := 0 }).then_same
  unfold State.judgeWindow
  split
  · exact .of_same
  · split
    · exact .of_same
    · exact leave
  · exact suspect
  · exact .of_same
  all_goals exact .refl

/-! ## Every command -/

theorem takeRecord_keepsPeers {whole : Nat} {handle : State → State} (h : ∀ b : State, b.KeepsPeers (handle b)) :
    s.KeepsPeers (s.takeRecord whole handle) := by
  have rise : s.KeepsPeers (s.riseCsn whole) := .of_same
  rcases takeRecord_cases (s := s) whole handle with e | e <;> rw [e]
  · exact .settle (rise.trans (h _))
  · exact .settle rise

/-- The commands that take frames of other stations, deadlines of peers and claims, the line clear, the verdict on a window and the release
of the reset pin each keep the laws; the rest leave PR's records and CT as they stand. -/
theorem exec_keepsPeers {c : Instr} (h : exec c s = .next t) : s.KeepsPeers t := by
  have comes : ∀ {enabled effect}, occurs enabled effect s = .next t → (enabled = true → s.KeepsPeers (effect s)) → s.KeepsPeers t :=
    fun h comes => occurs_keeps .refl comes h
  cases c with
  | resetRelease sa => exact comes h fun _ => releaseReset_keepsPeers sa
  | monitorWindowClose edges =>
    have closed : s.KeepsPeers (s.onTb (Timebase.closeWindow edges)) := .of_same
    exact comes h fun _ => .settle (closed.trans (judgeWindow_keepsPeers _))
  | quietDeadline st => exact comes h fun _ => takeQuietDeadline_keepsPeers st
  | lostDeadline st => exact comes h fun _ => takeLostDeadline_keepsPeers st
  | leaseDeadline st tag =>
    refine comes h fun _ => ?_
    rcases takeLeaseDeadline_cases (s := s) st tag with e | e <;> rw [e]
    · exact .refl
    · exact removeClaim_keepsPeers st tag
  | expiryPoint st tag =>
    refine comes h fun _ => ?_
    rcases takeExpiryPoint_cases (s := s) st tag with e | e <;> rw [e]
    · exact .refl
    · exact removeClaim_keepsPeers st tag
  | beaconReceived st b =>
    unfold exec execBeaconReceived at h
    exact comes h fun _ => takeFrame_keepsPeers fun _ => takeBeacon_keepsPeers st b
  | claimReceived st _ b => exact comes h fun _ => takeFrame_keepsPeers fun hst latch => takeClaimFrame_keepsPeers hst b latch s.timeoutEpoch
  | withdrawReceived st tag =>
    exact comes h fun _ => takeFrame_keepsPeers fun _ latch => (hear_keepsPeers st latch s.timeoutEpoch).trans (removeClaim_keepsPeers st tag)
  | lineClearDetected =>
    unfold exec execLineClearDetected at h
    exact comes h fun _ => lineClear_keepsPeers.settle
  | resetAssert | fbChangeDuringReset => exact comes h fun _ => .of_same rfl rfl rfl
  | microsecondAdvance => exact comes h fun _ => .settle .of_same
  | epochBoundary =>
    unfold exec execEpochBoundary at h
    exact comes h fun _ => .settle .of_same
  | badFrame =>
    unfold exec execBadFrame at h
    exact comes h fun _ => .settle .of_same
  | commitPoint =>
    refine comes h fun _ => ?_
    rcases takeCommitPoint_cases (s := s) with e | ⟨_, -, e⟩ <;> rw [e]
    · exact .refl
    · exact .settle .of_same
  | placedStart tag =>
    refine comes h fun _ => ?_
    rcases takePlacedStart_cases (s := s) tag with e | ⟨_, -, e⟩ <;> rw [e]
    · exact .refl
    · exact .settle .of_same
  | placedEnd tag =>
    refine comes h fun _ => ?_
    rcases takePlacedEnd_cases (s := s) tag with e | ⟨_, -, e⟩ <;> rw [e]
    · exact .refl
    · exact .settle .of_same
  | actLevelTaken | countDeadline | rqRise | rqFall | fastEnd | joiningEnd | acknowledgeDeadline | lineStuckDetected | ownNumberFrame =>
    exact comes h fun _ => .settle .of_same
  | lineIdle | startMark | arbitrationLost | readbackMismatch | csnFall => exact comes h fun _ => .of_same
  | clearDriveEnd => exact comes h fun _ => .of_same rfl rfl rfl
  | dominantStretchEnd =>
    refine comes h fun _ => ?_
    unfold State.endStretch
    split <;> exact .of_same
  | ownStartMarkReported =>
    refine comes h fun _ => ?_
    rcases reportStartMark_cases (s := s) with e | ⟨c, own, body, -, e⟩ <;> rw [e]
    · exact .refl
    · refine .of_same (by simp) ?_ (by simp)
      cases body with
      | beacon b =>
        unfold State.handReport State.reportBeacon
        dsimp only
        split <;> simp
      | claim _ c => simp [State.handReport]
      | withdraw tag => simp [State.handReport]
  | frameSent =>
    refine comes h fun _ => ?_
    rcases takeFrameSent_cases (s := s) with ⟨-, e⟩ | ⟨_, _, -, e⟩ <;> rw [e]
    · exact .refl
    · exact .of_same
  | driveFault =>
    refine comes h fun _ => ?_
    unfold State.takeDriveFault
    split <;> exact .settle .of_same
  | transactionEnd whole r =>
    refine comes h fun _ => takeRecord_keepsPeers fun b => ?_
    rcases answerPort_cases (s := b) r with e | ⟨_, _, e⟩ <;> rw [e]
    · exact .refl
    · exact .of_same
  | setup _ act rq r =>
    refine comes h fun _ => takeRecord_keepsPeers fun b => ?_
    rcases handleSetup_cases (s := b) act rq r with ⟨-, _, e⟩ | ⟨-, e⟩ <;> rw [e] <;> exact .of_same
  | submit _ r =>
    refine comes h fun _ => takeRecord_keepsPeers fun b => ?_
    rcases handleSubmit_cases (s := b) r with ⟨_, e⟩ | ⟨-, e⟩ <;> rw [e] <;> exact .of_same
  | cancel _ tag =>
    refine comes h fun _ => takeRecord_keepsPeers fun b => ?_
    rcases handleCancel_cases (s := b) tag with ⟨_, e⟩ | ⟨-, _, -, -, e⟩ <;> rw [e] <;> exact .of_same
  | profileSelect _ code =>
    refine comes h fun _ => takeRecord_keepsPeers fun b => ?_
    rcases handleProfileSelect_cases (s := b) code with ⟨_, e⟩ | ⟨-, e⟩ <;> rw [e] <;> exact .of_same
  | fastSpan _ r =>
    refine comes h fun _ => takeRecord_keepsPeers fun b => ?_
    rcases handleFastSpan_cases (s := b) r with ⟨_, e⟩ | ⟨-, e⟩ <;> rw [e] <;> exact .of_same
  | clearLine _ =>
    refine comes h fun _ => takeRecord_keepsPeers fun b => ?_
    rcases handleClearLine_cases (s := b) with ⟨_, e⟩ | ⟨-, e⟩ <;> rw [e] <;> exact .of_same
  | clearAck _ =>
    refine comes h fun _ => takeRecord_keepsPeers fun b => ?_
    rcases handleClearAck_cases (s := b) with e | e | e <;> rw [e] <;> exact .of_same
  | alarmClear _ flags =>
    refine comes h fun _ => takeRecord_keepsPeers fun b => ?_
    rcases handleAlarmClear_cases (s := b) flags with e | e <;> rw [e] <;> exact .of_same
  | meterRead _ =>
    refine comes h fun _ => takeRecord_keepsPeers fun b => ?_
    rcases handleMeterRead_cases (s := b) with ⟨_, e⟩ | ⟨-, e⟩ <;> rw [e] <;> exact .of_same
  | statusRead _ =>
    refine comes h fun _ => takeRecord_keepsPeers fun b => ?_
    unfold State.handleStatusRead
    exact .of_same
  | timeRead _ =>
    refine comes h fun _ => takeRecord_keepsPeers fun b => ?_
    rcases handleTimeRead_cases (s := b) with e | e <;> rw [e] <;> exact .of_same

/-- So does every step: the queue of commands is no part of the laws. -/
theorem step_keepsPeers (h : step s = .next t) : s.KeepsPeers t := by
  unfold step at h
  split at h
  · cases h
    exact .refl
  · rename_i rest _
    have taken : s.KeepsPeers { s with pending := rest } := .of_same rfl rfl rfl
    exact taken.trans (exec_keepsPeers h)

/-- Settles O57: both laws are parts of what every step keeps. -/
theorem peerAndClaimLawsKept : Obligations.PeerAndClaimLawsKept :=
  ⟨fun _ _ h => (step_keepsPeers h).peer, fun _ _ h hc hp => (step_keepsPeers h).claim hp hc⟩

end Sys2Proof.Machine
end

section
/-! O40 and O35: the judgement of an offset sample, and the deadlines of a peer record. -/

namespace Sys2Proof.Machine

open Sys2Proof

variable {s : State} {r : PeerRecord}

/-! ## The offset sample -/

/-- The first sample of a run is stored (R52). -/
theorem takeOffset_first (h : r.lastOffset = none) (o : Int) (latch : Time) :
    r.takeOffset o latch = { r with lastOffset := some o, offsetLatch := some latch } := by
  rw [PeerRecord.takeOffset, h]

/-- A later sample measures a step from the one before it (R53). -/
theorem takeOffset_later {o' : Int} {latch' : Time} (ho : r.lastOffset = some o') (hl : r.offsetLatch = some latch') (o : Int) (latch : Time) :
    r.takeOffset o latch = { r.judgeStep (latch - latch').toNat (BitVec.ofInt 32 (o - o')).toInt with
      lastOffset := some o, offsetLatch := some latch } := by
  rw [PeerRecord.takeOffset, ho, hl]

/-- A step over too short or too long a time ends the run (R53). -/
theorem judgeStep_out_of_time {delta : Nat} (h : ¬ (2048 ≤ delta ∧ delta ≤ 4194304)) (diff : Int) :
    r.judgeStep delta diff = { r with driftCount := 0 } := by
  have hout : (decide (delta < 2048) || decide (4194304 < delta)) = true := by
    rw [Bool.or_eq_true, decide_eq_true_eq, decide_eq_true_eq]
    omega
  rw [PeerRecord.judgeStep, if_pos hout]

theorem judgeStep_in_time {delta : Nat} (h : 2048 ≤ delta ∧ delta ≤ 4194304) (diff : Int) : r.judgeStep delta diff =
    if delta < diff.natAbs * 1000 then { r with driftCount := 0, jumps := saturatingSucc r.jumps }
    else r.filterDrift (driftSample diff delta) := by
  have hin : ¬ (decide (delta < 2048) || decide (4194304 < delta)) = true := by
    rw [Bool.or_eq_true, decide_eq_true_eq, decide_eq_true_eq]
    omega
  rw [PeerRecord.judgeStep, if_neg hin]

/-- D moves a truncated quarter of the way toward a later sample of a run (R54). -/
theorem filterDrift_quarter (h : r.driftCount ≠ 0) (d : Int) : min r.drift d ≤ (r.filterDrift d).drift ∧
    (r.filterDrift d).drift ≤ max r.drift d ∧ 4 * ((r.filterDrift d).drift - r.drift).natAbs ≤ (d - r.drift).natAbs ∧
    (d - r.drift).natAbs < 4 * (((r.filterDrift d).drift - r.drift).natAbs + 1) := by
  have hd : (r.filterDrift d).drift = r.drift + (d - r.drift).tdiv 4 := if_neg h
  obtain ⟨h1, h2, h3, h4⟩ := tdiv_four_bounds (d - r.drift)
  rw [hd, add_sub_cancel_left]
  omega

/-- Settles O40: a first sample, and the three judgements of a later one. -/
theorem offsetSample : Obligations.OffsetSample := by
  intro r o latch t
  refine ⟨rfl, rfl, fun h => takeOffset_first h o latch, ?_⟩
  intro o' latch' ho hl delta diff inTime jump
  have ht : t = { r.judgeStep delta diff with lastOffset := some o, offsetLatch := some latch } := takeOffset_later ho hl o latch
  refine ⟨fun h => ?_, fun h hj => ?_, fun h hj => ?_⟩
  · rw [ht, judgeStep_out_of_time h]
  · rw [ht, judgeStep_in_time h, if_pos hj, saturatingSucc_eq]
  · rw [judgeStep_in_time h, if_neg hj] at ht
    refine ⟨driftSample diff delta, rfl, ?_, fun hc => ?_, fun hc => ?_⟩
    · rw [ht]
      rfl
    · rw [ht]
      exact if_pos hc
    · rw [ht]
      exact filterDrift_quarter hc (driftSample diff delta)

/-! ## The deadlines -/

/-- With one record for each station, a change of the record of a station is a change of the record found (R39). -/
theorem map_station_unique {st : Station} (hn : (s.pr.records.map (·.station)).Nodup) (hr : s.findPeer st = some r)
    (f : PeerRecord → PeerRecord) :
    (s.pr.records.map fun x => if x.station == st then f x else x) = s.pr.records.map fun x => if x.station = st then f r else x := by
  refine List.map_congr_left fun x hx => ?_
  by_cases hst : x.station = st
  · simp [record_unique hn hr hx hst]
  · simp [hst]

theorem updatePeer_unique {st : Station} (hn : (s.pr.records.map (·.station)).Nodup) (hr : s.findPeer st = some r)
    (f : PeerRecord → PeerRecord) : s.updatePeer st f =
    { s with pr := { s.pr with records := s.pr.records.map fun x => if x.station = st then f r else x } } := by
  rw [← map_station_unique hn hr]
  rfl

theorem recomputeExpiry_ct (chosen : ClaimEntry → Bool) : s.recomputeExpiry chosen = { s with ct := (s.recomputeExpiry chosen).ct } := rfl

theorem dropClaims_eq (st : Station) : s.dropClaims st = { s with ct := s.ct.filter (·.station ≠ st) } := by
  have h : (s.ct.filter fun c => c.station != st) = s.ct.filter (·.station ≠ st) :=
    List.filter_congr fun c _ => by rw [decide_not]; rfl
  rw [← h]
  rfl

theorem follows_of_settle {t u : State} (h : t = u.settle) : u.Follows t := h ▸ settle_follows u

/-- Settles O35: each deadline, due, is taken, and changes the one record of its station. -/
theorem peerDeadlines : Obligations.PeerDeadlines := by
  intro st r deadline s hw hr hdist setTo
  have due : s.dueSome (some deadline) = true := decide_eq_true hdist
  constructor
  · intro hn hlive hq quiet
    have hdue : s.quietDue r = true := by rw [State.quietDue, hlive, hq, due]; rfl
    have htaken : s.takeQuietDeadline st = ((s.updatePeer st PeerRecord.quiet).recomputeStation st).settle := by
      rw [State.takeQuietDeadline, hr]
      exact if_pos hdue
    rw [updatePeer_unique hn hr] at htaken
    exact ⟨_, occurs_of_enabled hw _ s, follows_of_settle htaken⟩
  · intro hn hstate hl
    have hdue : s.lostDue r = true := by
      rw [State.lostDue, hl, due]
      rcases hstate with h | h <;> rw [h] <;> rfl
    have htaken : s.takeLostDeadline st = ((s.updatePeer st PeerRecord.lost).dropClaims st).settle := by
      rw [State.takeLostDeadline, hr]
      exact if_pos hdue
    rw [updatePeer_unique hn hr, dropClaims_eq] at htaken
    exact ⟨_, occurs_of_enabled hw _ s, follows_of_settle htaken⟩

end Sys2Proof.Machine
end

section
/-! O42: the asks for frames, and the head of the transmit queue. -/

namespace Sys2Proof.Machine

open Sys2Proof

variable {s : State} {tag : Tag} {ref : FrameRef}

/-! ## The head of the queue -/

/-- The order of the queue: by key kind, then by queue time (R155). -/
theorem aheadOf_iff {f g : QueuedFrame} : s.aheadOf f g = true ↔ (s.keyKind f.ref).code < (s.keyKind g.ref).code ∨
    (s.keyKind f.ref).code = (s.keyKind g.ref).code ∧ f.asked ≤ g.asked := by
  simp [State.aheadOf]

/-- The first of some queued frames is one of them, and stands ahead of each (R155). -/
theorem firstOf_spec {l : List QueuedFrame} (h : l ≠ []) : ∃ f ∈ l, s.firstOf l = some f ∧ ∀ g ∈ l, s.aheadOf f g = true := by
  refine choice_spec (fun a b => ?_) (fun a b c => ?_) rfl (fun a l => ?_) h
  · simp only [aheadOf_iff]
    omega
  · simp only [aheadOf_iff]
    omega
  · rw [State.firstOf]
    cases s.firstOf l <;> rfl

/-- A queue that is not empty has a head (R151). -/
theorem headFrame_eq_none_iff : s.headFrame = none ↔ s.lc.queue = [] := by
  refine ⟨fun h => ?_, fun h => by rw [State.headFrame, h]; rfl⟩
  by_contra hne
  obtain ⟨f, -, hf, -⟩ := firstOf_spec (s := s) hne
  rw [State.headFrame, hf] at h
  cases h

theorem headFrame_spec {f : QueuedFrame} (h : s.headFrame = some f) : f ∈ s.lc.queue ∧ ∀ g ∈ s.lc.queue, s.aheadOf f g = true := by
  have hne : s.lc.queue ≠ [] := fun hnil => by
    rw [headFrame_eq_none_iff.mpr hnil] at h
    cases h
  obtain ⟨g, hg, he, hall⟩ := firstOf_spec (s := s) hne
  rw [State.headFrame, he] at h
  cases h
  exact ⟨hg, hall⟩

/-- The key kind of a CLAIM, by the commit point of its entry (R65, R149). -/
theorem keyKind_claim_code (tag : Tag) : (s.keyKind (.claim tag)).code =
    if (s.findEntry tag).any fun e => decide (s.distance e.commitPoint < 0) then 1 else 2 := by
  rw [State.keyKind]
  cases hf : s.findEntry tag with
  | none => rfl
  | some e => by_cases h : s.distance e.commitPoint < 0 <;> simp [h, KeyKind.code]

/-! ## The asks -/

/-- The frame of earliest queue time is one of those given (R155). -/
theorem earliestAsked_spec {l : List QueuedFrame} (h : l ≠ []) : ∃ f ∈ l, earliestAsked l = some f ∧ ∀ g ∈ l, f.asked ≤ g.asked := by
  have spec := choice_spec (le := fun f g : QueuedFrame => decide (f.asked ≤ g.asked)) (choice := earliestAsked) (fun a b => ?_)
    (fun a b c => ?_) rfl (fun a l => ?_) h
  · simpa using spec
  · simpa using Nat.le_total a.asked b.asked
  · simpa using Nat.le_trans
  · rw [earliestAsked]
    cases earliestAsked l <;> simp

/-- An orphan is a WITHDRAW whose tag has left the book (R155). -/
theorem orphan_iff {f : QueuedFrame} : s.orphan f = true ↔ ∃ tag, f.ref = .withdraw tag ∧ s.findEntry tag = none := by
  unfold State.orphan
  cases f.ref <;> simp

/-- An ask that finds no room discards the orphaned WITHDRAW asked for before each other (R155). -/
theorem makeRoom_of_full {f : QueuedFrame} (hfull : 17 ≤ s.lc.queue.length) (hf : f ∈ s.lc.queue) (hr : f.ref = .withdraw tag)
    (hleft : s.findEntry tag = none)
    (hfirst : ∀ g ∈ s.lc.queue, ∀ tag', g.ref = .withdraw tag' → s.findEntry tag' = none → f.asked ≤ g.asked ∧ (g ≠ f → f.asked ≠ g.asked)) :
    s.makeRoom = s.dequeue (.withdraw tag) := by
  have hmem : f ∈ s.lc.queue.filter s.orphan := List.mem_filter.mpr ⟨hf, orphan_iff.mpr ⟨tag, hr, hleft⟩⟩
  obtain ⟨g, hg, he, hall⟩ := earliestAsked_spec (List.ne_nil_of_mem hmem)
  obtain ⟨hgq, hgo⟩ := List.mem_filter.mp hg
  obtain ⟨tag', hgr, hgl⟩ := orphan_iff.mp hgo
  obtain ⟨hle, hne⟩ := hfirst g hgq tag' hgr hgl
  have hgf : g = f := by
    by_contra h
    exact hne h (Nat.le_antisymm hle (hall f hmem))
  have hsize : ¬ s.lc.queue.length < Config.transmitSize := Nat.not_lt.mpr hfull
  rw [State.makeRoom, if_neg hsize, he, hgf, ← hr]

/-- A frame not queued is taken out in vain. -/
theorem filter_ref_ne (h : ∀ f ∈ s.lc.queue, f.ref ≠ ref) : s.lc.queue.filter (·.ref ≠ ref) = s.lc.queue :=
  List.filter_eq_self.mpr fun f hf => by simpa using h f hf

theorem queueHolds_of_mem (h : ∃ f ∈ s.lc.queue, f.ref = ref) : s.queueHolds ref = true := (queueHolds_iff ref).mpr h

/-- A CLAIM is not asked for while its entry is RETIRING or its claim held, or it is queued (R59). -/
theorem askClaim_refused {e : Entry} (hf : s.findEntry tag = some e)
    (h : e.state = .retiring ∨ e.held = true ∨ ∃ f ∈ s.lc.queue, f.ref = .claim tag) : s.askClaim tag = s := by
  rw [State.askClaim, hf]
  dsimp only
  rcases h with h | h | h
  · rw [if_pos (by simp [Entry.standing, h])]
  · rw [if_pos (by simp [h])]
  · rw [if_pos (queueHolds_of_mem h), ite_self]

/-- A CLAIM asked for takes the place of the WITHDRAW queued for its tag, if any (R59). -/
theorem askClaim_taken {e : Entry} (hf : s.findEntry tag = some e) (hs : e.state ≠ .retiring) (hh : e.held = false)
    (hfree : ∀ f ∈ s.lc.queue, f.ref ≠ .claim tag) : s.askClaim tag = (s.dequeue (.withdraw tag)).enqueue (.claim tag) := by
  have hclaim : ¬ s.queueHolds (.claim tag) = true := fun h => by
    obtain ⟨f, hm, hr⟩ := (queueHolds_iff _).mp h
    exact hfree f hm hr
  have hstands : ¬ (!e.standing || e.held) = true := by simp [Entry.standing, hs, hh]
  rw [State.askClaim, hf]
  dsimp only
  rw [if_neg hstands, if_neg hclaim]
  by_cases hw : s.queueHolds (.withdraw tag) = true
  · rw [if_pos hw]
  · rw [if_neg hw, dequeue_eq, filter_ref_ne fun f hm hr => hw (queueHolds_of_mem ⟨f, hm, hr⟩)]

theorem askWithdraw_eq (tag : Tag) : s.askWithdraw tag = State.enqueue
    { s with lc := { s.lc with queue := s.lc.queue.filter fun f => f.ref ≠ .claim tag ∧ f.ref ≠ .withdraw tag } } (.withdraw tag) := by
  rw [State.askWithdraw, dequeue_eq, dequeue_eq]
  simp only [List.filter_filter, Bool.decide_and, Bool.and_comm]

/-- Settles O42: each ask by the room it finds, and the head by the order of the queue. -/
theorem transmitQueue : Obligations.TransmitQueue := by
  refine ⟨fun s => ⟨rfl, fun _ _ => rfl⟩, fun s => ⟨headFrame_eq_none_iff, fun tag h => ?_⟩, fun s ref => enqueue_of_room,
    fun s ref f tag hfull hf hr hleft hfirst => ?_, fun s tag => askWithdraw_eq tag, fun s tag e hf => ⟨askClaim_refused hf, fun hs hh hfree => ?_⟩,
    fun s => ?_, ?_⟩
  · rw [State.askClaim, h]
  · rw [State.enqueue, makeRoom_of_full hfull hf hr hleft hfirst, dequeue_eq]
    rfl
  · rw [askClaim_taken hf hs hh hfree, dequeue_eq]
  · rw [State.askBeacon, dequeue_eq]
  · intro s f h kind
    obtain ⟨hm, hall⟩ := headFrame_spec h
    have hkind : ∀ g : QueuedFrame, (s.keyKind g.ref).code = kind g := fun g => by
      cases hg : g.ref with
      | withdraw tag => simp only [kind, hg]; rfl
      | claim tag => simp only [kind, hg]; exact keyKind_claim_code tag
      | beacon => simp only [kind, hg]; rfl
    exact ⟨hm, fun g hg => by rw [← hkind, ← hkind]; exact aheadOf_iff.mp (hall g hg)⟩

end Sys2Proof.Machine
end

section
/-! SUPPORT. What the handling of a frame leaves of the counts of frames and of the alarm flags, and what follows it (R159, R160). -/

namespace Sys2Proof.Machine

open Sys2Proof

variable {s t u : State}

/-! ## What counts no frame -/

/-- From `s` to `t` no frame is counted as good or bad, and no alarm flag changes but LATE_OVERLAP and NOTICE_LOSS. -/
structure State.KeepsCounts (s t : State) : Prop where
  badCount : t.lc.badCount = s.lc.badCount
  goodRun : t.lc.goodRun = s.lc.goodRun
  flag : ∀ a : Alarm, a ≠ .lateOverlap → a ≠ .noticeLoss → a.inSet t.au.flags = a.inSet s.au.flags

namespace State.KeepsCounts

theorem refl : s.KeepsCounts s := ⟨rfl, rfl, fun _ _ _ => rfl⟩

theorem trans (h : s.KeepsCounts t) (k : t.KeepsCounts u) : s.KeepsCounts u :=
  ⟨k.badCount.trans h.badCount, k.goodRun.trans h.goodRun, fun a h1 h2 => (k.flag a h1 h2).trans (h.flag a h1 h2)⟩

/-- A change of other blocks, and of the transmit queue. -/
theorem of_blocks (hb : t.lc.badCount = s.lc.badCount := by simp) (hg : t.lc.goodRun = s.lc.goodRun := by simp)
    (ha : t.au = s.au := by simp) : s.KeepsCounts t := ⟨hb, hg, fun _ _ _ => by rw [ha]⟩

end State.KeepsCounts

theorem raiseAlarm_keepsCounts {a : Alarm} (h : a = .lateOverlap ∨ a = .noticeLoss) : s.KeepsCounts (s.raiseAlarm a) := by
  refine ⟨by simp, by simp, fun x h1 h2 => ?_⟩
  have hx : x ≠ a := by rcases h with rfl | rfl <;> assumption
  rw [raiseAlarm_inSet, beq_false_of_ne hx, Bool.false_or]

theorem offerNotice_keepsCounts (n : Notice) : s.KeepsCounts (s.offerNotice n) := by
  unfold State.offerNotice
  split
  · exact .of_blocks
  · have counted : s.KeepsCounts (s.onAu fun u => { u with noticeLosses := saturatingSucc u.noticeLosses }) := ⟨rfl, rfl, fun _ _ _ => rfl⟩
    exact counted.trans (raiseAlarm_keepsCounts (.inr rfl))

theorem countLateOverlap_keepsCounts : s.KeepsCounts s.countLateOverlap := by
  have counted : s.KeepsCounts (s.onAu fun u => { u with lateOverlaps := saturatingSucc u.lateOverlaps }) := ⟨rfl, rfl, fun _ _ _ => rfl⟩
  exact counted.trans (raiseAlarm_keepsCounts (.inl rfl))

theorem dequeue_keepsCounts (ref : FrameRef) : s.KeepsCounts (s.dequeue ref) := .of_blocks rfl rfl rfl

theorem updateEntry_keepsCounts (tag : Tag) (f : Entry → Entry) : s.KeepsCounts (s.updateEntry tag f) := .of_blocks

/-! ## The asks -/

theorem makeRoom_keepsCounts : s.KeepsCounts s.makeRoom := by
  unfold State.makeRoom
  split
  · exact .refl
  · split
    · exact dequeue_keepsCounts _
    · exact .refl

theorem enqueue_keepsCounts (ref : FrameRef) : s.KeepsCounts (s.enqueue ref) :=
  makeRoom_keepsCounts.trans (.of_blocks rfl rfl rfl)

theorem askClaim_keepsCounts (tag : Tag) : s.KeepsCounts (s.askClaim tag) := by
  unfold State.askClaim
  split
  · exact .refl
  · split
    · exact .refl
    · split
      · exact .refl
      · split
        · exact (dequeue_keepsCounts _).trans (enqueue_keepsCounts _)
        · exact enqueue_keepsCounts _

theorem askClaims_keepsCounts (tags : List Tag) : s.KeepsCounts (s.askClaims tags) := by
  induction tags generalizing s with
  | nil => exact .refl
  | cons tag tags ih => exact (askClaim_keepsCounts tag).trans ih

/-! ## Occurrences -/

theorem occurrenceEnds_keepsCounts (tag : Tag) : s.KeepsCounts (s.occurrenceEnds tag) := by
  unfold State.occurrenceEnds
  split
  · exact .refl
  · split
    · rename_i e _ _
      have removed : s.KeepsCounts (s.removeEntry tag) := .of_blocks
      exact (removed.trans (offerNotice_keepsCounts _)).trans (dequeue_keepsCounts _)
    · exact updateEntry_keepsCounts _ _

theorem commit_keepsCounts (e : Entry) : s.KeepsCounts (s.commit e) := by
  have told : ∀ f n, s.KeepsCounts ((s.updateEntry e.tag f).offerNotice n) := fun f n =>
    (updateEntry_keepsCounts e.tag f).trans (offerNotice_keepsCounts n)
  unfold State.commit
  cases s.decide e with
  | grant | clip => exact told _ _
  | skipStrongerPeer | skipJoining => exact (told _ _).trans (occurrenceEnds_keepsCounts _)

theorem commitLinks_keepsCounts (tag : Tag) (n : Nat) : s.KeepsCounts (State.commitLinks tag n s) := by
  induction n generalizing s with
  | zero => exact .refl
  | succ n ih =>
    unfold State.commitLinks
    split
    · exact .refl
    · split
      · exact (commit_keepsCounts _).trans ih
      · exact .refl

theorem endOccurrence_keepsCounts (tag : Tag) : s.KeepsCounts (s.endOccurrence tag) := by
  have chained : ∀ u : State, u.KeepsCounts (u.commitWhileDue tag) := fun u => by
    unfold State.commitWhileDue
    split
    · exact .refl
    · exact commitLinks_keepsCounts _ _
  exact (occurrenceEnds_keepsCounts tag).trans (chained _)

theorem lateTestOne_keepsCounts (c : ClaimEntry) (tag : Tag) : s.KeepsCounts (State.lateTestOne c s tag) := by
  have told : ∀ tag f n, s.KeepsCounts ((s.updateEntry tag f).offerNotice n) := fun tag f n =>
    (updateEntry_keepsCounts tag f).trans (offerNotice_keepsCounts n)
  have committed : ∀ e p a, s.KeepsCounts (s.lateCommitted e p a) := fun e p a => by
    unfold State.lateCommitted
    dsimp only
    split
    · exact told _ _ _
    · exact (told _ _ _).trans (endOccurrence_keepsCounts _)
  have active : ∀ e p a, s.KeepsCounts (s.lateActive e p a) := fun e p a => by
    unfold State.lateActive
    dsimp only
    split
    · split
      · exact (told _ _ _).trans (endOccurrence_keepsCounts _)
      · exact told _ _ _
    · exact (updateEntry_keepsCounts _ _).trans countLateOverlap_keepsCounts
  unfold State.lateTestOne
  split
  · exact .refl
  · split
    · exact .refl
    · split
      · exact .refl
      · split
        · exact committed _ _ _
        · exact active _ _ _
        all_goals exact .refl

theorem lateTest_keepsCounts (c : ClaimEntry) : s.KeepsCounts (s.lateTest c) := by
  unfold State.lateTest
  generalize s.bookOrder.map Entry.tag = tags
  induction tags generalizing s with
  | nil => exact .refl
  | cons tag tags ih => exact (lateTestOne_keepsCounts c tag).trans ih

/-- A valid frame heard counts nothing by itself (R40). -/
theorem hear_keepsCounts (st : Station) (latch : Time) (timeout : PeerRecord → Nat) : s.KeepsCounts (s.hear st latch timeout) := by
  have heard : s.KeepsCounts (s.updatePeer st fun r => r.heard latch (timeout r)) := .of_blocks
  unfold State.hear
  split
  · exact .refl
  · dsimp only
    split
    · exact heard.trans (askClaims_keepsCounts _)
    · exact heard.trans (askClaims_keepsCounts _)
    · exact heard.trans .of_blocks
    · exact heard

/-! ## The end of a good frame -/

/-- What follows every event leaves LC but for the contending frame (R153). -/
theorem settle_lc : u.settle.lc.receiver = u.lc.receiver ∧ u.settle.lc.latch = u.lc.latch ∧ u.settle.lc.queue = u.lc.queue ∧
    u.settle.lc.goodRun = u.lc.goodRun ∧ u.settle.lc.badCount = u.lc.badCount := by
  rcases (settle_follows u).lc with ⟨-, e⟩ | ⟨-, e⟩ <;> rw [e] <;> exact ⟨rfl, rfl, rfl, rfl, rfl⟩

/-- It raises no flag but GRANT_OVERRUN (R142). -/
theorem settle_flag {a : Alarm} (ha : a ≠ .grantOverrun) : a.inSet u.settle.au.flags = a.inSet u.au.flags := by
  by_cases h : u.endsCounted
  · rw [((settle_follows u).counted h).1, State.countOverrun, raiseAlarm_inSet, beq_false_of_ne ha, Bool.false_or]
    rfl
  · rw [((settle_follows u).uncounted h).1]

/-- A frame counted before the 64th of a run (R160). -/
theorem countGood_of_lt (h : u.lc.goodRun < 63) : u.countGood = u.onLc fun l => { l with goodRun := l.goodRun + 1 } :=
  if_pos (by omega)

/-- The 64th of a run clears the bad count and LINE_NOISY (R160, R184). -/
theorem countGood_of_ge (h : 63 ≤ u.lc.goodRun) :
    u.countGood = (u.onLc fun l => { l with goodRun := 0, badCount := 0 }).clearAlarms (Alarm.bit .lineNoisy) := if_neg (by omega)

/-- A clear of one flag leaves each other (R182). -/
theorem clearAlarms_bit_inSet (a b : Alarm) : a.inSet (u.clearAlarms b.bit).au.flags = (a.inSet u.au.flags && a != b) := by
  rw [show (u.clearAlarms b.bit).au.flags = u.au.flags &&& ~~~b.bit from rfl, Alarm.inSet_and, Alarm.inSet_not, Alarm.inSet_bit]
  rfl

/-- `t` is `u`, the state after the handling of a good frame, with the frame counted and its reception ended (R150, R159, R160). -/
structure State.FrameEnds (u t : State) : Prop where
  receiver : t.lc.receiver = .waitIdle 7
  latch : t.lc.latch = none
  queue : t.lc.queue = u.lc.queue
  goodRun : t.lc.goodRun = if u.lc.goodRun < 63 then u.lc.goodRun + 1 else 0
  badCount : t.lc.badCount = if u.lc.goodRun < 63 then u.lc.badCount else 0
  lineNoisy : Alarm.lineNoisy.inSet t.au.flags = (Alarm.lineNoisy.inSet u.au.flags && Decidable.decide (u.lc.goodRun < 63))
  viewGap : Alarm.viewGap.inSet t.au.flags = Alarm.viewGap.inSet u.au.flags

theorem endReception_settle_frameEnds : u.FrameEnds (u.countGood.endReception).settle := by
  obtain ⟨hreceiver, hlatch, hqueue, hgood, hbad⟩ := settle_lc (u := u.countGood.endReception)
  have flag : ∀ a : Alarm, a ≠ .grantOverrun → a.inSet u.countGood.endReception.settle.au.flags = a.inSet u.countGood.au.flags :=
    fun a ha => (settle_flag ha).trans (by simp)
  refine ⟨hreceiver.trans rfl, hlatch.trans rfl, hqueue.trans (by simp), hgood.trans ?_, hbad.trans ?_, (flag _ (by decide)).trans ?_,
    (flag _ (by decide)).trans ?_⟩
  all_goals by_cases h : u.lc.goodRun < 63
  all_goals simp [State.endReception, h, countGood_of_lt, countGood_of_ge, not_lt.mp, clearAlarms_bit_inSet]

end Sys2Proof.Machine
end

section
/-! SUPPORT. The records of PR after a change of one, and what a valid frame of another station does before its own handling (R40, R43, R71). -/

namespace Sys2Proof.Machine

open Sys2Proof

variable {s t : State} {st : Station} {r : PeerRecord} {latch : Time} {timeout : PeerRecord → Nat}

/-! ## One record -/

theorem updatePeer_eq (st : Station) (f : PeerRecord → PeerRecord) : s.updatePeer st f =
    { s with pr := { s.pr with records := s.pr.records.map fun x => if x.station = st then f x else x } } := by
  simp only [State.updatePeer, State.onPr, beq_iff_eq]

/-- The record found after a change of the records of its station (R39). -/
theorem findPeer_updatePeer {f : PeerRecord → PeerRecord} (hf : (f r).station = st) (hr : s.findPeer st = some r) :
    (s.updatePeer st f).findPeer st = some (f r) := by
  have key : ∀ l : List PeerRecord, l.find? (fun x => x.station == st) = some r →
      (l.map fun x => if x.station == st then f x else x).find? (fun x => x.station == st) = some (f r) := by
    intro l
    induction l with
    | nil => intro h; cases h
    | cons x l ih =>
      intro h
      by_cases hx : x.station = st
      · simp only [List.find?_cons, hx, BEq.rfl] at h
        cases h
        simp [hx, hf]
      · have hb : (x.station == st) = false := by simpa using hx
        rw [List.find?_cons, hb] at h
        rw [List.map_cons, hb, if_neg (by simp), List.find?_cons, hb]
        exact ih h
  exact key _ hr

/-- The record of another station stands (R39). -/
theorem findPeer_updatePeer_other {st' : Station} {f : PeerRecord → PeerRecord} (hf : ∀ x : PeerRecord, (f x).station = x.station)
    (h : st' ≠ st) : (s.updatePeer st f).findPeer st' = s.findPeer st' := by
  have key : ∀ l : List PeerRecord, (l.map fun x => if x.station == st then f x else x).find? (fun x => x.station == st') =
      l.find? (fun x => x.station == st') := by
    intro l
    induction l with
    | nil => rfl
    | cons x l ih =>
      rw [List.map_cons, List.find?_cons, List.find?_cons, ih]
      by_cases hx : x.station = st
      · have hne : (st == st') = false := by simpa using h.symm
        simp [hx, hf, hne]
      · simp [hx]
  exact key _

/-! ## A frame heard -/

/-- The tags of the live claims, in book order (R20, R24). -/
def State.liveTags (s : State) : List Tag := (s.bookOrder.filter fun e => e.announced && e.standing).map Entry.tag

/-- A catch-up asks for every live claim (R43). -/
theorem catchUp_eq : s.catchUp = s.askClaims s.liveTags := rfl

theorem liveTags_congr (hb : t.book = s.book) (ht : t.tb.localTime = s.tb.localTime) : t.liveTags = s.liveTags := by
  rw [State.liveTags, State.liveTags, bookOrder_congr hb ht]

/-- The part with the records of a station LIVE after its frame (R40). -/
def State.withHeard (s : State) (st : Station) (latch : Time) (timeout : PeerRecord → Nat) : State :=
  s.updatePeer st fun r => r.heard latch (timeout r)

/-- What a valid frame does before its own handling: a catch-up from UNHEARD or LOST, and from QUIET the expiry points afresh (R40, R43,
R71). -/
theorem hear_eq (hr : s.findPeer st = some r) (latch : Time) (timeout : PeerRecord → Nat) : s.hear st latch timeout =
    if r.state = .unheard ∨ r.state = .lost then (s.withHeard st latch timeout).askClaims s.liveTags
    else if r.state = .quiet then (s.withHeard st latch timeout).recomputeExpiry fun c => c.station == st
    else s.withHeard st latch timeout := by
  have tags : (s.withHeard st latch timeout).liveTags = s.liveTags := liveTags_congr (by simp [State.withHeard]) (by simp [State.withHeard])
  rw [← tags, ← catchUp_eq]
  unfold State.hear
  rw [hr]
  dsimp only
  cases r.state <;> simp [State.withHeard, State.recomputeStation]

/-- By the timeout epoch length of the record: that of the beacon heard last, or the own one (R39, R40). -/
theorem withHeard_timeoutEpoch : s.withHeard st latch s.timeoutEpoch =
    { s with pr := { s.pr with records := s.pr.records.map fun x => if x.station = st then
      { x with
        state := .live
        lastHeard := some latch
        quietDeadline := some (later latch (3 * x.senderEpoch.getD s.tb.epochLength))
        lostDeadline := some (later latch (10 * x.senderEpoch.getD s.tb.epochLength)) } else x } } := updatePeer_eq st _

/-- A complete frame of another station is handled with its latch, and counted as good (R159). -/
theorem takeFrame_of_other (hst : st ≠ s.station) (hl : s.lc.latch = some latch) (handle : Time → State) :
    s.takeFrame st handle = ((handle latch).countGood.endReception).settle := by
  rw [State.takeFrame, if_neg hst, hl]

theorem removeClaim_ct (st : Station) (tag : Tag) :
    (s.removeClaim st tag).ct = s.ct.filter fun c => ¬ (c.station = st ∧ c.tag = tag) :=
  List.filter_congr fun c _ => by rw [decide_not, Bool.decide_and]; rfl

end Sys2Proof.Machine
end

section
/-! O39: WITHDRAW_RECEIVED, OWN_NUMBER_FRAME and BAD_FRAME. -/

namespace Sys2Proof.Machine

open Sys2Proof

variable {s : State}

/-! ## WITHDRAW_RECEIVED -/

theorem exec_withdrawReceived {st : Station} {tag : Tag} {latch : Time} (hr : s.receiving = true) (hst : st ≠ s.station)
    (hl : s.lc.latch = some latch) : exec (.withdrawReceived st tag) s =
      .next ((((s.hear st latch s.timeoutEpoch).removeClaim st tag).countGood.endReception).settle) :=
  (occurs_of_enabled hr _ s).trans (congrArg _ (takeFrame_of_other hst hl _))

/-! ## OWN_NUMBER_FRAME -/

theorem countClash_eq : s.countClash = State.raiseAlarm
    { s with au := { s.au with clashes := if s.au.clashes = 65535 then 65535 else s.au.clashes + 1 } } .stationClash := by
  simp only [State.countClash, State.onAu, saturatingSucc_eq]

/-- The end of a good frame before the 64th of a run (R150, R160). -/
theorem goodFrame_of_lt (h : s.lc.goodRun < 63) : s.countGood.endReception =
    { s with lc := { s.lc with goodRun := s.lc.goodRun + 1, receiver := .waitIdle 7, latch := none, stretch := none } } := by
  rw [countGood_of_lt h]
  rfl

/-- The end of the 64th good frame of a run (R150, R160, R184). -/
theorem goodFrame_of_ge (h : 63 ≤ s.lc.goodRun) : s.countGood.endReception =
    { s with
      lc := { s.lc with goodRun := 0, badCount := 0, receiver := .waitIdle 7, latch := none, stretch := none }
      au := (s.clearAlarms (Alarm.bit .lineNoisy)).au } := by
  rw [countGood_of_ge h]
  rfl

/-! ## BAD_FRAME -/

/-- A raise and a change of LC commute. -/
theorem raiseAlarm_onLc (f : LineController → LineController) (a : Alarm) : (s.onLc f).raiseAlarm a = (s.raiseAlarm a).onLc f := by
  obtain ⟨hau, hrp⟩ := raiseAlarm_congr (s := s) (t := s.onLc f) a rfl rfl
  apply State.eq_of_blocks
  case h13 => exact hau
  case h14 => exact hrp
  all_goals simp

/-- A bad frame, counted, with its reception ended (R159, R160; notes/assumptions/23). -/
def State.badCounted (s : State) (line : List LineEvent) : State :=
  { s with
    lc := { line.foldl (LineController.follow s.now) s.lc with
      goodRun := 0, badCount := min 8 (s.lc.badCount + 1), receiver := .waitIdle 0, latch := none }
    au := { s.au with rxErrors := if s.au.rxErrors = 65535 then 65535 else s.au.rxErrors + 1 } }

/-- A bad count that reaches or stands at 8 raises LINE_NOISY (R160). -/
theorem countBad_dropReception (line : List LineEvent) : (s.followLine line).countBad.dropReception =
    if 7 ≤ s.lc.badCount then (s.badCounted line).raiseAlarm .lineNoisy else s.badCounted line := by
  have hbad : (s.followLine line).lc.badCount = s.lc.badCount := by
    rw [show (s.followLine line).lc = _ from LineController.foldl_follow s.now s.lc line]
  let counted : State := ((s.followLine line).onLc fun l => { l with goodRun := 0, badCount := min 8 (l.badCount + 1) }).onAu
    fun u => { u with rxErrors := saturatingSucc u.rxErrors }
  have hcounted : counted.dropReception = s.badCounted line := by
    simp only [counted, State.badCounted, State.dropReception, State.onLc, State.onAu, hbad, saturatingSucc_eq]
    rfl
  have height : counted.lc.badCount = 8 ↔ 7 ≤ s.lc.badCount := by
    change min 8 ((s.followLine line).lc.badCount + 1) = 8 ↔ _
    omega
  have hbranch : (s.followLine line).countBad = if counted.lc.badCount = 8 then counted.raiseAlarm .lineNoisy else counted := rfl
  rw [hbranch]
  by_cases h : 7 ≤ s.lc.badCount
  · rw [if_pos (height.mpr h), if_pos h, ← hcounted]
    exact (raiseAlarm_onLc _ _).symm
  · rw [if_neg (mt height.mp h), if_neg h, hcounted]

theorem exec_badFrame_of_disabled {line : List LineEvent} {cause : BadFrameCause}
    (h : s.receiving = false ∨ (s.followLine line).mayJudge cause = false) : exec (.badFrame line cause) s = .next s := by
  unfold exec execBadFrame
  refine occurs_of_disabled ?_ _ s
  rcases h with h | h <;> simp [h]

/-- Settles O39: what each of the three frames does, by the count it meets. -/
theorem otherFrames : Obligations.OtherFrames := by
  refine ⟨?_, fun s hr => ?_, fun s start hd hs hdist => ?_, fun s line cause h => exec_badFrame_of_disabled (.inl h), fun s line cause => ?_⟩
  · intro st tag r latch s hrec hst hl hr heard liveTags known
    have hheard : s.withHeard st latch s.timeoutEpoch = heard := withHeard_timeoutEpoch
    have hknown : s.hear st latch s.timeoutEpoch = known := by rw [hear_eq hr, hheard]; rfl
    have hpr : known.pr = heard.pr := by rw [← hknown, ← hheard]; exact hear_records hr latch _
    have hbook : known.book = s.book := by rw [← hknown]; simp
    have counts : s.KeepsCounts known := hknown ▸ hear_keepsCounts st latch _
    have ends := endReception_settle_frameEnds (u := known.removeClaim st tag)
    have hgood : (known.removeClaim st tag).lc.goodRun = s.lc.goodRun := counts.goodRun
    have hbad : (known.removeClaim st tag).lc.badCount = s.lc.badCount := counts.badCount
    have hnoisy : Alarm.lineNoisy.inSet (known.removeClaim st tag).au.flags = Alarm.lineNoisy.inSet s.au.flags :=
      counts.flag _ (by decide) (by decide)
    have hexec := exec_withdrawReceived (tag := tag) hrec hst hl
    rw [hknown] at hexec
    refine ⟨_, hexec, by simpa using hpr, ?_, by simpa using hbook, ends.receiver, ?_, ?_, ?_, ends.queue⟩
    · simpa using removeClaim_ct (s := known) st tag
    · rw [ends.goodRun, hgood]
    · rw [ends.badCount, hgood, hbad]
    · rw [ends.lineNoisy, hgood, hnoisy]
  · intro clashed
    have hclash : s.countClash = clashed := countClash_eq
    have hlc : clashed.lc = s.lc := by simp [clashed]
    have hexec : exec .ownNumberFrame s = .next (clashed.countGood.endReception).settle := hclash ▸ occurs_of_enabled hr _ s
    refine ⟨_, hexec, fun h => ?_, fun h => ⟨clashed.countGood.endReception, settle_follows _, ?_⟩⟩
    · rw [← hlc] at h ⊢
      exact goodFrame_of_lt h ▸ settle_follows clashed.countGood.endReception
    · rw [← hlc] at h ⊢
      rw [goodFrame_of_ge h]
      exact ⟨rfl, rfl, fun a => clearAlarms_bit_inSet a .lineNoisy⟩
  · have hclear : s.clearDue = true := clearDue_iff.mpr ⟨hd, start, hs, hdist⟩
    simp [State.receiving, hclear]
  · intro l counted
    have hjudge : (s.followLine line).mayJudge cause = true ↔
        l.stretch = none ∨ cause = .crc ∧ ∃ start, l.stretch = some start ∧ 0 ≤ s.distance (later start 3) := State.mayJudge_iff _ _
    refine ⟨fun hs hc => exec_badFrame_of_disabled (.inr ?_), fun start hs hdist => exec_badFrame_of_disabled (.inr ?_), fun hr hm hj => ?_⟩
    · rw [Bool.eq_false_iff, ne_eq, hjudge]
      rintro (hn | ⟨hcrc, -⟩)
      · rw [hn] at hs
        cases hs
      · exact hc hcrc
    · rw [Bool.eq_false_iff, ne_eq, hjudge, hs]
      rintro (hn | ⟨-, start', hs', hle⟩)
      · cases hn
      · cases hs'
        omega
    · have hexec : exec (.badFrame line cause) s = .next ((s.followLine line).countBad.dropReception.settle) := by
        unfold exec execBadFrame
        exact occurs_of_enabled (by simp [hr, hm, hjudge.mpr hj]) _ s
      have hcount := countBad_dropReception (s := s) line
      refine ⟨_, hexec, fun h => ?_, fun h => ?_⟩
      · rw [hcount, if_neg (by omega)]
        exact settle_follows counted
      · rw [hcount, if_pos h]
        exact settle_follows (counted.raiseAlarm .lineNoisy)

end Sys2Proof.Machine
end

section
/-! O38: CLAIM_RECEIVED. -/

namespace Sys2Proof.Machine

open Sys2Proof

variable {s : State} {st : Station} {tag : Tag} {c : ClaimEntry}

/-! ## The entry found by a key -/

/-- Entries that leave are not found, and each other entry still is (R69). -/
theorem findClaim_removeClaim (st' : Station) (tag' : Tag) :
    (s.removeClaim st tag).findClaim st' tag' = if st' = st ∧ tag' = tag then none else s.findClaim st' tag' := by
  unfold State.findClaim
  rw [removeClaim_ct, List.find?_filter]
  split
  · rename_i h
    obtain ⟨rfl, rfl⟩ := h
    simp only [List.find?_eq_none, Bool.and_eq_true, beq_iff_eq, decide_eq_true_eq]
    exact fun _ _ ⟨hne, hk⟩ => hne hk
  · rename_i h
    congr 1
    funext x
    by_cases hx : x.station = st' ∧ x.tag = tag'
    · obtain ⟨rfl, rfl⟩ := hx
      simp [not_and_or.mp h]
    · have hx' : (x.station == st' && x.tag == tag') = false := by
        rwa [Bool.eq_false_iff, ne_eq, Bool.and_eq_true, beq_iff_eq, beq_iff_eq]
      simp [hx']

/-- An entry that takes the place of the one with its key is found by the key, and each other entry by its own (R67). -/
theorem findClaim_putClaim_of_held (h : s.findClaim c.station c.tag ≠ none) (st' : Station) (tag' : Tag) :
    (s.putClaim c).findClaim st' tag' = if st' = c.station ∧ tag' = c.tag then some c else s.findClaim st' tag' := by
  rw [putClaim_of_held h]
  have key : ∀ l : List ClaimEntry, (l.map fun d => if d.station == c.station && d.tag == c.tag then c else d).find?
      (fun d => d.station == st' && d.tag == tag') = if st' = c.station ∧ tag' = c.tag then
        (l.find? fun d => d.station == st' && d.tag == tag').map fun _ => c else l.find? fun d => d.station == st' && d.tag == tag' := by
    intro l
    induction l with
    | nil => simp
    | cons d l ih =>
      rw [List.map_cons, List.find?_cons, List.find?_cons, ih]
      by_cases hk : st' = c.station ∧ tag' = c.tag
      · obtain ⟨rfl, rfl⟩ := hk
        by_cases hd : (d.station == c.station && d.tag == c.tag) = true <;> simp [hd]
      · have hc : (c.station == st' && c.tag == tag') = false := by
          rw [Bool.eq_false_iff, ne_eq, Bool.and_eq_true, beq_iff_eq, beq_iff_eq]
          exact fun ⟨h1, h2⟩ => hk ⟨h1.symm, h2.symm⟩
        by_cases hd : (d.station == c.station && d.tag == c.tag) = true
        · have hd' : (d.station == st' && d.tag == tag') = false := by
            simp only [Bool.and_eq_true, beq_iff_eq] at hd
            rw [hd.1, hd.2]
            exact hc
          simp [hd, hc, hd', hk]
        · simp [hd, hk]
  refine (key s.ct).trans ?_
  by_cases hk : st' = c.station ∧ tag' = c.tag
  · obtain ⟨rfl, rfl⟩ := hk
    obtain ⟨old, hold⟩ := Option.ne_none_iff_exists'.mp h
    rw [if_pos ⟨rfl, rfl⟩, if_pos ⟨rfl, rfl⟩, show s.ct.find? (fun d => d.station == c.station && d.tag == c.tag) = some old from hold]
    rfl
  · rw [if_neg hk, if_neg hk]
    rfl

/-- An entry added behind others is found by its key, when none of them is (R67). -/
theorem findClaim_append (h : s.findClaim c.station c.tag = none) (st' : Station) (tag' : Tag) :
    (s.onCt fun ct => ct ++ [c]).findClaim st' tag' = if st' = c.station ∧ tag' = c.tag then some c else s.findClaim st' tag' := by
  unfold State.findClaim at h ⊢
  rw [State.onCt_ct, List.find?_append]
  split
  · rename_i hk
    obtain ⟨rfl, rfl⟩ := hk
    rw [h]
    simp
  · rename_i hk
    have hc : (c.station == st' && c.tag == tag') = false := by
      rw [Bool.eq_false_iff, ne_eq, Bool.and_eq_true, beq_iff_eq, beq_iff_eq]
      exact fun ⟨h1, h2⟩ => hk ⟨h1.symm, h2.symm⟩
    simp [hc]

/-- An eviction adds no entry (R68). -/
theorem findClaim_evict_of_none {st' : Station} (h : s.findClaim st' tag = none) : (s.evict st).findClaim st' tag = none := by
  by_cases hroom : (s.claimsOf st).length < 16
  · rwa [evict_of_room hroom]
  · obtain ⟨d, -, -, he⟩ := evict_of_full hroom
    rw [he, findClaim_congr (s := s.removeClaim st d.tag) (by simp), findClaim_removeClaim, h, ite_self]

/-- An entry stored is found by its key (R67). -/
theorem findClaim_putClaim_self : (s.putClaim c).findClaim c.station c.tag = some c := by
  by_cases hf : s.findClaim c.station c.tag = none
  · rw [putClaim_of_new hf, findClaim_append (findClaim_evict_of_none hf), if_pos ⟨rfl, rfl⟩]
  · rw [findClaim_putClaim_of_held hf, if_pos ⟨rfl, rfl⟩]

/-- With room for its station, or an entry of its key, an entry is stored and nothing else changes (R67). -/
theorem putClaim_of_room (h : (s.claimsOf c.station).length < 16 ∨ (s.findClaim c.station c.tag).isSome = true) :
    (s.putClaim c).au = s.au ∧ ∀ st' tag',
      (s.putClaim c).findClaim st' tag' = if st' = c.station ∧ tag' = c.tag then some c else s.findClaim st' tag' := by
  by_cases hf : s.findClaim c.station c.tag = none
  · have hroom : (s.claimsOf c.station).length < 16 := h.resolve_right (by simp [hf])
    rw [putClaim_of_new hf, evict_of_room hroom]
    exact ⟨rfl, findClaim_append hf⟩
  · exact ⟨by rw [putClaim_of_held hf]; rfl, findClaim_putClaim_of_held hf⟩

/-- Two entries that go before each other at eviction have one tag (R68). -/
theorem evictedBefore_antisymm {a b : ClaimEntry} (hab : s.evictedBefore a b = true) (hba : s.evictedBefore b a = true) : a.tag = b.tag := by
  rw [evictedBefore_iff] at hab hba
  exact BitVec.eq_of_toNat_eq (by omega)

/-- A seventeenth entry of a station is stored in the place of the one announced earliest, and of those the one of the lowest tag, and
VIEW_GAP is raised (R68). -/
theorem putClaim_of_full {old : ClaimEntry} (hroom : ¬ ((s.claimsOf c.station).length < 16 ∨ (s.findClaim c.station c.tag).isSome = true))
    (hold : old ∈ s.claimsOf c.station) (hfirst : ∀ d ∈ s.claimsOf c.station, s.evictedBefore old d = true) :
    Alarm.viewGap.inSet (s.putClaim c).au.flags = true ∧ ∀ st' tag', (s.putClaim c).findClaim st' tag' =
      if st' = c.station ∧ tag' = c.tag then some c else if st' = c.station ∧ tag' = old.tag then none else s.findClaim st' tag' := by
  obtain ⟨hfull, hf⟩ := not_or.mp hroom
  rw [Option.not_isSome_iff_eq_none] at hf
  obtain ⟨d, hd, hall, he⟩ := evict_of_full hfull
  have htag : d.tag = old.tag := evictedBefore_antisymm (hall old hold) (hfirst d hd)
  rw [htag] at he
  have left : ∀ st' tag', (s.evict c.station).findClaim st' tag' =
      if st' = c.station ∧ tag' = old.tag then none else s.findClaim st' tag' := fun st' tag' => by
    rw [he, findClaim_congr (s := s.removeClaim c.station old.tag) (by simp)]
    exact findClaim_removeClaim st' tag'
  rw [putClaim_of_new hf]
  refine ⟨by simp [he, raiseAlarm_inSet], fun st' tag' => ?_⟩
  rw [findClaim_append (findClaim_evict_of_none hf), left]

/-- Storing an entry raises no flag but VIEW_GAP (R68). -/
theorem putClaim_flag {a : Alarm} (ha : a ≠ .viewGap) : a.inSet (s.putClaim c).au.flags = a.inSet s.au.flags := by
  have evicted : a.inSet (s.evict c.station).au.flags = a.inSet s.au.flags := by
    by_cases h : (s.claimsOf c.station).length < 16
    · rw [evict_of_room h]
    · obtain ⟨d, -, -, he⟩ := evict_of_full h
      simp [he, raiseAlarm_inSet, beq_false_of_ne ha]
  by_cases hf : s.findClaim c.station c.tag = none
  · rw [putClaim_of_new hf]
    exact evicted
  · rw [putClaim_of_held hf]
    rfl

/-! ## The handling of a claim -/

/-- A claim in range is stored, tested and removed again when it has ended (R67, R71, R108). -/
theorem takeClaimFrame_some {b : ClaimBody} {latch : Time} (h : takeClaim st b latch = some c) : s.takeClaimFrame st b latch =
    ((s.putClaim (s.withDeadlines c)).lateTest (s.withDeadlines c)).removeIfExpired (s.withDeadlines c) := by
  unfold State.takeClaimFrame
  split
  · rename_i hn
    cases hn.symm.trans h
  · rename_i d hd
    cases hd.symm.trans h
    rfl

theorem takeClaimFrame_none {b : ClaimBody} {latch : Time} (h : takeClaim st b latch = none) : s.takeClaimFrame st b latch = s := by
  unfold State.takeClaimFrame
  split
  · rfl
  · rename_i d hd
    cases hd.symm.trans h

/-- The handling of a claim counts no frame, and leaves LINE_NOISY. -/
theorem takeClaimFrame_counts (st : Station) (b : ClaimBody) (latch : Time) :
    (s.takeClaimFrame st b latch).lc.badCount = s.lc.badCount ∧ (s.takeClaimFrame st b latch).lc.goodRun = s.lc.goodRun ∧
      Alarm.lineNoisy.inSet (s.takeClaimFrame st b latch).au.flags = Alarm.lineNoisy.inSet s.au.flags := by
  cases h : takeClaim st b latch with
  | none =>
    rw [takeClaimFrame_none h]
    exact ⟨rfl, rfl, rfl⟩
  | some c =>
    have tested := lateTest_keepsCounts (s := s.putClaim (s.withDeadlines c)) (s.withDeadlines c)
    rw [takeClaimFrame_some h]
    refine ⟨?_, ?_, ?_⟩
    · simpa using tested.badCount
    · simpa using tested.goodRun
    · simpa [putClaim_flag] using tested.flag .lineNoisy (by decide) (by decide)

/-- An entry stays when it has not ended, and leaves when it has (R71). -/
theorem findClaim_removeIfExpired (st' : Station) (tag' : Tag) : (s.removeIfExpired c).findClaim st' tag' =
    if s.dueSome c.expiry = true ∧ st' = c.station ∧ tag' = c.tag then none else s.findClaim st' tag' := by
  unfold State.removeIfExpired
  by_cases h : s.dueSome c.expiry = true
  · rw [if_pos h, findClaim_removeClaim]
    simp [h]
  · rw [if_neg h, if_neg fun hk => h hk.1]

/-- Lease and expiry of a claim of a station whose record is known (R70, R71). -/
theorem withDeadlines_eq {r : PeerRecord} (hr : s.findPeer c.station = some r) : s.withDeadlines c =
    { c with
      lease := later c.lastAnnouncement (10 * s.timeoutEpoch r)
      expiry := s.expiryOf { c with lease := later c.lastAnnouncement (10 * s.timeoutEpoch r) } } := by
  rw [State.withDeadlines, hr]
  rfl

/-- The claims after the handling of a claim in range are those after it is stored, without it when it has ended (R67, R71). -/
theorem takeClaimFrame_findClaim {b : ClaimBody} {latch : Time} (h : takeClaim st b latch = some c) (st' : Station) (tag' : Tag) :
    (s.takeClaimFrame st b latch).findClaim st' tag' =
      if s.dueSome (s.withDeadlines c).expiry = true ∧ st' = st ∧ tag' = b.tag then none
      else (s.putClaim (s.withDeadlines c)).findClaim st' tag' := by
  obtain ⟨hcs, hct, -⟩ := takeClaim_key h
  let tested := (s.putClaim (s.withDeadlines c)).lateTest (s.withDeadlines c)
  have hdue : tested.dueSome = s.dueSome := dueSome_congr (by simp [tested])
  have hkey : (s.withDeadlines c).station = st ∧ (s.withDeadlines c).tag = b.tag := ⟨hcs, hct⟩
  rw [takeClaimFrame_some h, findClaim_removeIfExpired, hdue, hkey.1, hkey.2,
    findClaim_congr (s := s.putClaim (s.withDeadlines c)) (t := tested) (by simp [tested])]

/-- Of the handling of a claim, storing it alone can raise VIEW_GAP (R68). -/
theorem takeClaimFrame_viewGap {b : ClaimBody} {latch : Time} (h : takeClaim st b latch = some c) :
    Alarm.viewGap.inSet (s.takeClaimFrame st b latch).au.flags = Alarm.viewGap.inSet (s.putClaim (s.withDeadlines c)).au.flags := by
  have tested := lateTest_keepsCounts (s := s.putClaim (s.withDeadlines c)) (s.withDeadlines c)
  rw [takeClaimFrame_some h]
  simpa using tested.flag .viewGap (by decide) (by decide)

theorem exec_claimReceived {short : Bool} {b : ClaimBody} {latch : Time} (hr : s.receiving = true) (hst : st ≠ s.station)
    (hl : s.lc.latch = some latch) : exec (.claimReceived st short b) s =
      .next ((((s.hear st latch s.timeoutEpoch).takeClaimFrame st b latch).countGood.endReception).settle) :=
  (occurs_of_enabled hr _ s).trans (congrArg _ (takeFrame_of_other hst hl _))

/-- Settles O38: the record is heard, and then the claim is passed over, or stored with room or by an eviction. -/
theorem claimReceived : Obligations.ClaimReceived := by
  intro st short b r latch s hrec hst hl hr heard liveTags known room
  have hheard : s.withHeard st latch s.timeoutEpoch = heard := withHeard_timeoutEpoch
  have hknown : s.hear st latch s.timeoutEpoch = known := by rw [hear_eq hr, hheard]; rfl
  have hpr : known.pr = heard.pr := by rw [← hknown, ← hheard]; exact hear_records hr latch _
  have hbook : known.book = s.book := by rw [← hknown]; simp
  have htb : known.tb = s.tb := by rw [← hknown]; simp
  have counts : s.KeepsCounts known := hknown ▸ hear_keepsCounts st latch _
  have hexec := exec_claimReceived (short := short) (b := b) hrec hst hl
  rw [hknown] at hexec
  obtain ⟨hbad, hgood, hnoisy⟩ := takeClaimFrame_counts (s := known) st b latch
  have ends := endReception_settle_frameEnds (u := known.takeClaimFrame st b latch)
  refine ⟨_, hexec, by simpa using hpr, ends.receiver, ?_, ?_, ?_, fun hnone => ?_, fun c hc => ?_⟩
  · rw [ends.goodRun, hgood, counts.goodRun]
  · rw [ends.badCount, hgood, hbad, counts.goodRun, counts.badCount]
  · rw [ends.lineNoisy, hgood, hnoisy, counts.goodRun, counts.flag _ (by decide) (by decide)]
  · have hsame := takeClaimFrame_none (s := known) hnone
    refine ⟨by simp [hsame], by simp [hsame, hbook], by rw [ends.queue, hsame]⟩
  · intro leased entry tested
    obtain ⟨hcs, hct, hca⟩ := takeClaim_key hc
    have hrecord : known.findPeer c.station = some (r.heard latch (s.timeoutEpoch r)) := by
      rw [findPeer_congr (s := s.withHeard st latch s.timeoutEpoch) (by rw [hpr, hheard]), hcs]
      exact findPeer_updatePeer (findPeer_some hr).2 hr
    have hentry : known.withDeadlines c = entry := by
      have hlease : later c.lastAnnouncement (10 * known.timeoutEpoch (r.heard latch (s.timeoutEpoch r))) = leased.lease := by
        rw [hca, State.timeoutEpoch, htb]
        rfl
      rw [withDeadlines_eq hrecord, hlease, expiryOf_congr (s := heard) (by rw [hpr]) (by rw [htb])]
    have hes : entry.station = st := hcs
    have het : entry.tag = b.tag := hct
    have hdue : known.dueSome = heard.dueSome := dueSome_congr (by rw [htb])
    have hhandled := takeClaimFrame_some (s := known) hc
    have hfind := takeClaimFrame_findClaim (s := known) hc
    have hgap := ends.viewGap.trans (takeClaimFrame_viewGap (s := known) hc)
    rw [hentry] at hhandled hfind hgap
    rw [hdue] at hfind
    have hfind' : ∀ st' tag', (known.takeClaimFrame st b latch).countGood.endReception.settle.findClaim st' tag' = _ := fun st' tag' =>
      (congrFun₂ (findClaim_congr (by simp)) st' tag').trans (hfind st' tag')
    have hroom : room ↔ (known.claimsOf entry.station).length < 16 ∨ (known.findClaim entry.station entry.tag).isSome = true := by
      rw [hes, het]
    have hself : (known.putClaim entry).findClaim st b.tag = some entry := hes ▸ het ▸ findClaim_putClaim_self
    have other : ∀ {st' tag'}, st' ≠ st ∨ tag' ≠ b.tag → ¬ (st' = st ∧ tag' = b.tag) := fun hne ⟨h1, h2⟩ => hne.elim (· h1) (· h2)
    refine ⟨fun hd => ?_, fun hd => ?_, by simp [hhandled, tested], by rw [ends.queue, hhandled]; simp [tested], fun hr => ?_,
      fun hr old hold hfirst => ?_⟩
    · rw [hfind', if_neg (by simp [hd]), hself]
    · rw [hfind', if_pos ⟨hd, rfl, rfl⟩]
    · obtain ⟨hau, hothers⟩ := putClaim_of_room (hroom.mp hr)
      refine ⟨by rw [hgap, hau, counts.flag _ (by decide) (by decide)], fun st' tag' hne => ?_⟩
      rw [hfind', if_neg fun h => other hne h.2, hothers, hes, het, if_neg (other hne)]
    · have hfirst' : ∀ d ∈ known.claimsOf entry.station, known.evictedBefore old d = true := fun d hd => by
        rw [evictedBefore_iff, distance_congr (s := s) (by rw [htb])]
        exact hfirst d (hes ▸ hd)
      obtain ⟨hraised, hothers⟩ := putClaim_of_full (mt hroom.mpr hr) (hes.symm ▸ hold) hfirst'
      refine ⟨by rw [hgap, hraised], fun st' tag' hne => ?_⟩
      rw [hfind', if_neg fun h => other hne h.2, hothers, hes, het, if_neg (other hne)]

end Sys2Proof.Machine
end

section
/-! SUPPORT. Asks for claims rest on the book and LC alone, and a second ask for the same claims changes nothing (R59). -/

namespace Sys2Proof.Machine

open Sys2Proof

variable {s t : State} {tag tag' : Tag} {ref : FrameRef}

/-! ## What an ask reads -/

theorem orphan_congr (hb : t.book = s.book) : t.orphan = s.orphan := by
  funext f
  rw [State.orphan.eq_def, State.orphan.eq_def, findEntry_congr hb]

theorem dequeue_lc_congr (hl : t.lc = s.lc) (ref : FrameRef) : (t.dequeue ref).lc = (s.dequeue ref).lc := by
  rw [State.dequeue, State.dequeue, State.onLc_lc, State.onLc_lc, hl]

theorem makeRoom_lc_congr (hb : t.book = s.book) (hl : t.lc = s.lc) : t.makeRoom.lc = s.makeRoom.lc := by
  unfold State.makeRoom
  rw [hl, orphan_congr hb]
  split
  · exact hl
  · split
    · exact dequeue_lc_congr hl _
    · exact hl

theorem enqueue_lc_congr (hb : t.book = s.book) (hl : t.lc = s.lc) (ref : FrameRef) : (t.enqueue ref).lc = (s.enqueue ref).lc := by
  rw [State.enqueue, State.enqueue, State.onLc_lc, State.onLc_lc, makeRoom_lc_congr hb hl]

theorem askClaim_lc_congr (hb : t.book = s.book) (hl : t.lc = s.lc) (tag : Tag) : (t.askClaim tag).lc = (s.askClaim tag).lc := by
  have hq : t.queueHolds = s.queueHolds := by
    funext ref
    rw [State.queueHolds, State.queueHolds, hl]
  unfold State.askClaim
  rw [findEntry_congr hb, hq]
  split
  · exact hl
  · split
    · exact hl
    · split
      · exact hl
      · split
        · exact enqueue_lc_congr (by simpa using hb) (dequeue_lc_congr hl _) _
        · exact enqueue_lc_congr hb hl _

theorem askClaims_lc_congr (hb : t.book = s.book) (hl : t.lc = s.lc) (tags : List Tag) : (t.askClaims tags).lc = (s.askClaims tags).lc := by
  induction tags generalizing s t with
  | nil => exact hl
  | cons tag tags ih => exact ih (by simpa using hb) (askClaim_lc_congr hb hl tag)

/-! ## A second ask -/

/-- An ask for the claim of a tag changes nothing: its entry is RETIRING or held, its CLAIM is queued, or there is none (R59). -/
def State.AskedFor (s : State) (tag : Tag) : Prop :=
  ∀ e, s.findEntry tag = some e → e.state = .retiring ∨ e.held = true ∨ ∃ f ∈ s.lc.queue, f.ref = .claim tag

theorem askClaim_of_asked (h : s.AskedFor tag) : s.askClaim tag = s := by
  cases hf : s.findEntry tag with
  | none => rw [State.askClaim, hf]
  | some e => exact askClaim_refused hf (h e hf)

/-- An ask changes nothing, or its CLAIM takes the place of a WITHDRAW (R59). -/
theorem askClaim_cases (tag : Tag) : s.AskedFor tag ∧ s.askClaim tag = s ∨ s.askClaim tag = (s.dequeue (.withdraw tag)).enqueue (.claim tag) := by
  by_cases h : s.AskedFor tag
  · exact .inl ⟨h, askClaim_of_asked h⟩
  · obtain ⟨e, he⟩ := not_forall.mp h
    obtain ⟨hf, hn⟩ := Classical.not_imp.mp he
    obtain ⟨hs, hn⟩ := not_or.mp hn
    obtain ⟨hh, hq⟩ := not_or.mp hn
    exact .inr (askClaim_taken hf hs (by simpa using hh) fun f hm hr => hq ⟨f, hm, hr⟩)

/-- Room is made at the cost of no CLAIM (R155). -/
theorem mem_makeRoom_of_claim {f : QueuedFrame} (hm : f ∈ s.lc.queue) (hr : f.ref = .claim tag) : f ∈ s.makeRoom.lc.queue := by
  unfold State.makeRoom
  split
  · exact hm
  · split
    · rename_i g hg
      have hne : s.lc.queue.filter s.orphan ≠ [] := fun hnil => by
        rw [hnil] at hg
        cases hg
      obtain ⟨g', hg', he, -⟩ := earliestAsked_spec hne
      obtain ⟨tag', hw, -⟩ := orphan_iff.mp (List.mem_filter.mp hg').2
      cases hg.symm.trans he
      exact mem_dequeue.mpr ⟨hm, by simp [hr, hw]⟩
    · exact hm

/-- A queued CLAIM stays queued at an ask for any (R59, R155). -/
theorem claim_queued_askClaim (h : ∃ f ∈ s.lc.queue, f.ref = .claim tag) (tag' : Tag) :
    ∃ f ∈ (s.askClaim tag').lc.queue, f.ref = .claim tag := by
  obtain ⟨f, hm, hr⟩ := h
  rcases askClaim_cases (s := s) tag' with ⟨-, e⟩ | e <;> rw [e]
  · exact ⟨f, hm, hr⟩
  · have hleft : f ∈ (s.dequeue (.withdraw tag')).lc.queue := mem_dequeue.mpr ⟨hm, by simp [hr]⟩
    exact ⟨f, List.mem_append_left _ (mem_makeRoom_of_claim hleft hr), hr⟩

theorem askedFor_askClaim (h : s.AskedFor tag) (tag' : Tag) : (s.askClaim tag').AskedFor tag := fun e hf => by
  rw [findEntry_congr (s := s) (by simp)] at hf
  exact (h e hf).imp id (Or.imp id fun hq => claim_queued_askClaim hq tag')

theorem askedFor_askClaims (h : s.AskedFor tag) (tags : List Tag) : (s.askClaims tags).AskedFor tag := by
  induction tags generalizing s with
  | nil => exact h
  | cons tag' tags ih => exact ih (askedFor_askClaim h tag')

theorem askedFor_after_ask (tag : Tag) : (s.askClaim tag).AskedFor tag := by
  rcases askClaim_cases (s := s) tag with ⟨h, e⟩ | e <;> rw [e]
  · exact h
  · exact fun _ _ => .inr (.inr ⟨_, List.mem_append_right _ (List.mem_singleton_self _), rfl⟩)

theorem askedFor_of_mem {tags : List Tag} (h : tag ∈ tags) : (s.askClaims tags).AskedFor tag := by
  induction tags generalizing s with
  | nil => cases h
  | cons tag' tags ih =>
    rcases List.mem_cons.mp h with rfl | h
    · exact askedFor_askClaims (askedFor_after_ask tag) tags
    · exact ih h

theorem askClaims_of_asked {tags : List Tag} (h : ∀ tag ∈ tags, s.AskedFor tag) : s.askClaims tags = s := by
  induction tags with
  | nil => rfl
  | cons tag tags ih =>
    have first : s.askClaims (tag :: tags) = (s.askClaim tag).askClaims tags := rfl
    rw [first, askClaim_of_asked (h tag List.mem_cons_self)]
    exact ih fun tag' hm => h tag' (List.mem_cons_of_mem tag hm)

/-- Claims asked for a second time are queued already, or refused again (R59). -/
theorem askClaims_twice (tags : List Tag) : (s.askClaims tags).askClaims tags = s.askClaims tags :=
  askClaims_of_asked fun _ => askedFor_of_mem

end Sys2Proof.Machine
end

section
/-! SUPPORT. The six steps of a beacon, one by one: the sender's record, the claims of its station, and the asks (R50–R56, R71). -/

namespace Sys2Proof.Machine

open Sys2Proof

variable {s t : State} {st st' : Station} {r x : PeerRecord} {b : BeaconBody} {latch : Time}

/-! ## Expiry points of one station -/

/-- The expiry points of a station rest on the D, the sample count and the state of its record (R71, R75). -/
theorem recomputeStation_congr (hc : t.ct = s.ct) (htb : t.tb = s.tb) (hs : s.findPeer st = some r) (ht : t.findPeer st = some x)
    (hd : x.drift = r.drift) (hn : x.driftCount = r.driftCount) (hq : x.state = r.state) :
    (t.recomputeStation st).ct = (s.recomputeStation st).ct := by
  have hrate : t.marginRate x = s.marginRate r := by rw [State.marginRate, State.marginRate, htb, hn, hq]
  have hexpiry : ∀ c : ClaimEntry, c.station = st → t.expiryOf c = s.expiryOf c := fun c hst => by
    rw [State.expiryOf.eq_def, State.expiryOf.eq_def, hst, hs, ht]
    cases c.remaining with
    | none => rfl
    | some n => simp only [hd, hrate]
  have hmap : (s.ct.map fun c => if c.station == st then { c with expiry := t.expiryOf c } else c) =
      s.ct.map fun c => if c.station == st then { c with expiry := s.expiryOf c } else c := by
    refine List.map_congr_left fun c _ => ?_
    split
    · rename_i hst
      rw [hexpiry c (beq_iff_eq.mp hst)]
    · rfl
  rw [State.recomputeStation, State.recomputeStation, State.recomputeExpiry, State.recomputeExpiry, State.onCt_ct, State.onCt_ct, hc, hmap,
    dueSome_congr (s := s) (by rw [htb])]

/-- The entries of the other stations stand (R71). -/
theorem recomputeStation_others (st : Station) :
    (s.recomputeStation st).ct.filter (·.station ≠ st) = s.ct.filter (·.station ≠ st) := by
  rw [State.recomputeStation, State.recomputeExpiry, State.onCt_ct]
  induction s.ct with
  | nil => rfl
  | cons c l ih =>
    by_cases hst : c.station = st
    · by_cases hdue : s.dueSome (s.expiryOf c) = true
      · simpa [hst, hdue] using ih
      · simpa [hst, hdue] using ih
    · simpa [hst] using ih

/-! ## The record of the sender -/

theorem findPeer_hear (hr : s.findPeer st = some r) (latch : Time) (timeout : PeerRecord → Nat) :
    (s.hear st latch timeout).findPeer st = some (r.heard latch (timeout r)) := by
  rw [findPeer_congr (s := s.withHeard st latch timeout) (by rw [hear_records hr]; rfl)]
  exact findPeer_updatePeer (findPeer_some hr).2 hr

theorem findPeer_hear_other (hr : s.findPeer st = some r) (h : st' ≠ st) (latch : Time) (timeout : PeerRecord → Nat) :
    (s.hear st latch timeout).findPeer st' = s.findPeer st' := by
  rw [findPeer_congr (s := s.withHeard st latch timeout) (by rw [hear_records hr]; rfl)]
  exact findPeer_updatePeer_other (fun _ => rfl) h

/-- A beacon is a restart of its sender: FRESH after a plain one (R55). -/
def PeerRecord.restarts (r : PeerRecord) (b : BeaconBody) : Bool := b.fresh && r.lastFresh == some false

/-- The restart check (R55, R72). -/
theorem restartCheck_eq (hr : s.findPeer st = some r) : s.restartCheck st b =
    if r.restarts b then ((s.updatePeer st PeerRecord.restarted).dropClaims st).catchUp else s := by
  rw [State.restartCheck, hr]
  rfl

/-- The record after steps 1 to 3 of a beacon: heard, checked for a restart, and with its fields set (R50). -/
def PeerRecord.withBeacon (r : PeerRecord) (b : BeaconBody) (latch : Time) : PeerRecord :=
  (if r.restarts b then (r.heard latch (beaconEpoch b)).restarted else r.heard latch (beaconEpoch b)).withFields b

/-- The part after steps 1 to 3 of a beacon (R50). -/
def State.withBeacon (s : State) (st : Station) (b : BeaconBody) (latch : Time) : State :=
  ((s.hear st latch fun _ => beaconEpoch b).restartCheck st b).updatePeer st fun r => r.withFields b

theorem withBeacon_findPeer (hr : s.findPeer st = some r) : (s.withBeacon st b latch).findPeer st = some (r.withBeacon b latch) := by
  have hheard := findPeer_hear hr latch fun _ => beaconEpoch b
  have hst := (findPeer_some hr).2
  unfold State.withBeacon PeerRecord.withBeacon
  rw [restartCheck_eq hheard]
  by_cases h : r.restarts b = true
  · rw [if_pos h, if_pos (show (r.heard latch (beaconEpoch b)).restarts b = true from h)]
    refine findPeer_updatePeer hst ?_
    rw [findPeer_congr (s := (s.hear st latch fun _ => beaconEpoch b).updatePeer st PeerRecord.restarted) (by simp)]
    exact findPeer_updatePeer hst hheard
  · rw [if_neg h, if_neg (show ¬ (r.heard latch (beaconEpoch b)).restarts b = true from h)]
    exact findPeer_updatePeer hst hheard

theorem withBeacon_findPeer_other (hr : s.findPeer st = some r) (h : st' ≠ st) :
    (s.withBeacon st b latch).findPeer st' = s.findPeer st' := by
  have hheard := findPeer_hear hr latch fun _ => beaconEpoch b
  unfold State.withBeacon
  rw [findPeer_updatePeer_other (f := fun r => r.withFields b) (fun _ => rfl) h, restartCheck_eq hheard]
  split
  · rw [findPeer_congr (s := (s.hear st latch fun _ => beaconEpoch b).updatePeer st PeerRecord.restarted) (by simp),
      findPeer_updatePeer_other (f := PeerRecord.restarted) (fun _ => rfl) h, findPeer_hear_other hr h]
  · exact findPeer_hear_other hr h _ _

/-- The claims after steps 1 to 3: from QUIET with expiry points afresh, and at a restart without those of the station (R55, R71, R72). -/
theorem withBeacon_ct (hr : s.findPeer st = some r) : (s.withBeacon st b latch).ct =
    if r.restarts b then s.ct.filter (·.station ≠ st)
    else if r.state = .quiet then ((s.withHeard st latch fun _ => beaconEpoch b).recomputeStation st).ct else s.ct := by
  have hheard := findPeer_hear hr latch fun _ => beaconEpoch b
  have hct : (s.hear st latch fun _ => beaconEpoch b).ct =
      if r.state = .quiet then ((s.withHeard st latch fun _ => beaconEpoch b).recomputeStation st).ct else s.ct := by
    rw [hear_eq hr]
    cases r.state <;> simp [State.withHeard, State.recomputeStation]
  unfold State.withBeacon
  rw [restartCheck_eq hheard]
  by_cases h : r.restarts b = true
  · rw [if_pos h, if_pos (show (r.heard latch (beaconEpoch b)).restarts b = true from h)]
    have hdrop : ∀ u : State, (u.updatePeer st PeerRecord.restarted).dropClaims st = _ := fun u => dropClaims_eq st
    simp only [hdrop, State.updatePeer_frame, State.catchUp_frame, hct]
    split
    · exact recomputeStation_others st
    · rfl
  · rw [if_neg h, if_neg (show ¬ (r.heard latch (beaconEpoch b)).restarts b = true from h), ← hct]
    simp

/-- The asks of steps 1 to 3: one catch-up from UNHEARD or LOST and one at a restart, which ask for the same claims (R43, R55). -/
theorem withBeacon_queue (hr : s.findPeer st = some r) : (s.withBeacon st b latch).lc.queue =
    (if r.state = .unheard ∨ r.state = .lost ∨ r.restarts b = true then s.askClaims s.liveTags else s).lc.queue := by
  let heard := s.hear st latch fun _ => beaconEpoch b
  have hheard : heard.findPeer st = _ := findPeer_hear hr latch fun _ => beaconEpoch b
  have hlc : heard.lc = (if r.state = .unheard ∨ r.state = .lost then s.askClaims s.liveTags else s).lc := by
    have same : ((s.withHeard st latch fun _ => beaconEpoch b).askClaims s.liveTags).lc = (s.askClaims s.liveTags).lc :=
      askClaims_lc_congr (by simp [State.withHeard]) (by simp [State.withHeard]) _
    have stands : (s.withHeard st latch fun _ => beaconEpoch b).lc = s.lc := by simp [State.withHeard]
    change (s.hear st latch fun _ => beaconEpoch b).lc = _
    rw [hear_eq hr]
    cases r.state <;> simp [same, stands]
  have htags : ((heard.updatePeer st PeerRecord.restarted).dropClaims st).liveTags = s.liveTags :=
    liveTags_congr (by simp [heard]) (by simp [heard])
  have again : ((heard.updatePeer st PeerRecord.restarted).dropClaims st).catchUp.lc = (s.askClaims s.liveTags).lc := by
    rw [catchUp_eq, htags]
    by_cases h : r.state = .unheard ∨ r.state = .lost
    · rw [if_pos h] at hlc
      rw [askClaims_lc_congr (s := s.askClaims s.liveTags) (by simp [heard]) (by simpa using hlc), askClaims_twice]
    · rw [if_neg h] at hlc
      exact askClaims_lc_congr (by simp [heard]) (by simpa using hlc) _
  have hqueue : (s.withBeacon st b latch).lc = (heard.restartCheck st b).lc := by simp [State.withBeacon, heard]
  rw [hqueue, restartCheck_eq hheard]
  by_cases h : r.restarts b = true
  · rw [if_pos (show (r.heard latch (beaconEpoch b)).restarts b = true from h), again, if_pos (.inr (.inr h))]
  · rw [if_neg (show ¬ (r.heard latch (beaconEpoch b)).restarts b = true from h), hlc]
    simp only [h, Bool.false_eq_true, or_false]

/-! ## The offset sample and the view check -/

/-- The judgement of a sample rests on the samples, D and the jumps, and changes these alone (R52, R53, R54). -/
theorem takeOffset_eq (ho : x.lastOffset = r.lastOffset) (hl : x.offsetLatch = r.offsetLatch) (hd : x.drift = r.drift)
    (hn : x.driftCount = r.driftCount) (hj : x.jumps = r.jumps) (o : Int) (latch : Time) : x.takeOffset o latch =
    { x with
      lastOffset := some o
      offsetLatch := some latch
      drift := (r.takeOffset o latch).drift
      driftCount := (r.takeOffset o latch).driftCount
      jumps := (r.takeOffset o latch).jumps } := by
  have judged : ∀ delta diff, x.judgeStep delta diff = { x with
      drift := (r.judgeStep delta diff).drift
      driftCount := (r.judgeStep delta diff).driftCount
      jumps := (r.judgeStep delta diff).jumps } := fun delta diff => by
    by_cases ht : 2048 ≤ delta ∧ delta ≤ 4194304
    · rw [judgeStep_in_time ht, judgeStep_in_time ht]
      split
      · simp only [hd, hj]
      · simp only [PeerRecord.filterDrift, hd, hn, hj]
    · rw [judgeStep_out_of_time ht, judgeStep_out_of_time ht, ← hd, ← hj]
  unfold PeerRecord.takeOffset
  rw [ho, hl]
  split
  · simp only [judged]
  · simp only [← hd, ← hn, ← hj]

/-- Step 4 of a beacon (R50, R52, R71). -/
theorem offsetStep_eq (hr : s.findPeer st = some r) : s.offsetStep st b latch =
    if (r.takeOffset (offsetOf b latch) latch).drift = r.drift ∧ (r.takeOffset (offsetOf b latch) latch).driftCount = r.driftCount then
      s.updatePeer st fun r => r.takeOffset (offsetOf b latch) latch
    else (s.updatePeer st fun r => r.takeOffset (offsetOf b latch) latch).recomputeStation st := by
  rw [State.offsetStep, hr]
  simp only [Bool.and_eq_true, decide_eq_true_eq]

theorem offsetStep_pr (hr : s.findPeer st = some r) : (s.offsetStep st b latch).pr =
    (s.updatePeer st fun r => r.takeOffset (offsetOf b latch) latch).pr := by
  rw [offsetStep_eq hr]
  split <;> simp

/-- The mark of the view check over the number of claims held (R56). -/
def PeerRecord.mark (r : PeerRecord) (b : BeaconBody) (held : Nat) : Nat :=
  if b.fresh = true ∨ b.liveCount.toNat = held then 0 else if r.mismatch = 0 then 1 else r.mismatch

/-- Step 5 of a beacon: the mark is set, and VIEW_GAP raised at the second mismatch in a row (R56). -/
theorem viewCheck_spec (hr : s.findPeer st = some r) :
    (s.viewCheck st b).findPeer st = some { r with mismatch := r.mark b (s.claimsOf st).length } ∧
    (∀ st', st' ≠ st → (s.viewCheck st b).findPeer st' = s.findPeer st') ∧
    ∀ a : Alarm, a.inSet (s.viewCheck st b).au.flags = (a.inSet s.au.flags ||
      (a == .viewGap && (!b.fresh && b.liveCount.toNat != (s.claimsOf st).length && r.mismatch != 0))) := by
  have hst := (findPeer_some hr).2
  unfold State.viewCheck PeerRecord.mark
  rw [hr]
  dsimp only
  simp only [Bool.or_eq_true, decide_eq_true_eq]
  by_cases hv : b.fresh = true ∨ b.liveCount.toNat = (s.claimsOf st).length
  · simp only [if_pos hv]
    refine ⟨findPeer_updatePeer hst hr, fun st' h => findPeer_updatePeer_other (fun _ => rfl) h, fun a => ?_⟩
    rcases hv with hv | hv <;> simp [hv]
  · simp only [if_neg hv]
    obtain ⟨hf, hn⟩ := not_or.mp hv
    by_cases hm : r.mismatch = 0
    · simp only [if_pos hm]
      exact ⟨findPeer_updatePeer hst hr, fun st' h => findPeer_updatePeer_other (fun _ => rfl) h, fun a => by simp [hm]⟩
    · simp only [if_neg hm]
      refine ⟨(congrFun (findPeer_congr (by simp)) st).trans hr, fun st' _ => congrFun (findPeer_congr (by simp)) st', fun a => ?_⟩
      have second : (!b.fresh && b.liveCount.toNat != (s.claimsOf st).length && r.mismatch != 0) = true := by
        rw [bne_iff_ne.mpr hn, bne_iff_ne.mpr hm, Bool.eq_false_iff.mpr hf]
        rfl
      rw [raiseAlarm_inSet, second, Bool.and_true, Bool.or_comm]

end Sys2Proof.Machine
end

section
/-! O37: BEACON_RECEIVED. -/

namespace Sys2Proof.Machine

open Sys2Proof

variable {s : State} {st st' : Station} {r : PeerRecord} {b : BeaconBody} {latch : Time}

/-- The run of samples that a beacon goes on with: none at a restart of its sender (R55). -/
def PeerRecord.run (r : PeerRecord) (b : BeaconBody) : PeerRecord := if r.restarts b then r.restarted else r

/-- The run with the offset sample of a beacon judged against it (R52, R53, R54). -/
def PeerRecord.judged (r : PeerRecord) (b : BeaconBody) (latch : Time) : PeerRecord := (r.run b).takeOffset (offsetOf b latch) latch

/-- The record after a beacon, with this many claims of its station held (R50). -/
def PeerRecord.afterBeacon (r : PeerRecord) (b : BeaconBody) (latch : Time) (held : Nat) : PeerRecord :=
  { r.run b with
    state := .live
    lastHeard := some latch
    quietDeadline := some (later latch (3 * beaconEpoch b))
    lostDeadline := some (later latch (10 * beaconEpoch b))
    senderEpoch := some (beaconEpoch b)
    lastOffset := some (offsetOf b latch)
    offsetLatch := some latch
    drift := (r.judged b latch).drift
    driftCount := (r.judged b latch).driftCount
    credit := beaconCredit b
    lastFresh := some b.fresh
    lastLiveCount := some b.liveCount.toNat
    mismatch := (r.run b).mark b held
    senderHold := some b.hold
    senderProfile := some (beaconProfile b)
    jumps := (r.judged b latch).jumps }

/-- Steps 1 to 3 set the fields of the run's record (R40, R51). -/
theorem withBeacon_eq : r.withBeacon b latch =
    { r.run b with
      state := .live
      lastHeard := some latch
      quietDeadline := some (later latch (3 * beaconEpoch b))
      lostDeadline := some (later latch (10 * beaconEpoch b))
      senderEpoch := some (beaconEpoch b)
      credit := beaconCredit b
      lastLiveCount := some b.liveCount.toNat
      senderHold := some b.hold
      senderProfile := some (beaconProfile b) } := by
  unfold PeerRecord.withBeacon PeerRecord.run
  split <;> rfl

/-- Step 4 takes the run's judgement into that record (R52). -/
theorem withBeacon_takeOffset : (r.withBeacon b latch).takeOffset (offsetOf b latch) latch =
    { r.withBeacon b latch with
      lastOffset := some (offsetOf b latch)
      offsetLatch := some latch
      drift := (r.judged b latch).drift
      driftCount := (r.judged b latch).driftCount
      jumps := (r.judged b latch).jumps } :=
  takeOffset_eq (by rw [withBeacon_eq]) (by rw [withBeacon_eq]) (by rw [withBeacon_eq]) (by rw [withBeacon_eq]) (by rw [withBeacon_eq]) _ _

/-- At a restart the first sample of the run changes neither D nor the sample count (R52, R55). -/
theorem judged_of_restart (h : r.restarts b = true) :
    (r.judged b latch).drift = (r.run b).drift ∧ (r.judged b latch).driftCount = (r.run b).driftCount := by
  have hrun : (r.run b).lastOffset = none := by
    rw [PeerRecord.run, if_pos h]
    rfl
  rw [PeerRecord.judged, takeOffset_first hrun]
  exact ⟨rfl, rfl⟩

/-! ## The part after a beacon -/

/-- The part after step 4 of a beacon (R50). -/
def State.withSample (s : State) (st : Station) (b : BeaconBody) (latch : Time) : State := (s.withBeacon st b latch).offsetStep st b latch

theorem takeBeacon_eq (s : State) (st : Station) (b : BeaconBody) (latch : Time) : s.takeBeacon st b latch =
    ((s.withSample st b latch).viewCheck st b).updatePeer st fun r => { r with lastFresh := some b.fresh } := rfl

theorem withSample_findPeer (hr : s.findPeer st = some r) :
    (s.withSample st b latch).findPeer st = some ((r.withBeacon b latch).takeOffset (offsetOf b latch) latch) := by
  have hx := withBeacon_findPeer (b := b) (latch := latch) hr
  rw [State.withSample, findPeer_congr (congrArg Peers.records (offsetStep_pr hx))]
  exact findPeer_updatePeer (f := fun r => r.takeOffset (offsetOf b latch) latch)
    ((takeOffset_station_state _ _ _).1.trans (findPeer_some hx).2) hx

theorem withSample_findPeer_other (hr : s.findPeer st = some r) (h : st' ≠ st) :
    (s.withSample st b latch).findPeer st' = s.findPeer st' := by
  have hx := withBeacon_findPeer (b := b) (latch := latch) hr
  rw [State.withSample, findPeer_congr (congrArg Peers.records (offsetStep_pr hx)),
    findPeer_updatePeer_other (f := fun r => r.takeOffset (offsetOf b latch) latch) (fun x => (takeOffset_station_state x _ _).1) h,
    withBeacon_findPeer_other hr h]

/-- The claims after a beacon: without those of the station at a restart, and otherwise with its expiry points afresh when the record leaves
QUIET, and when D or the sample count has changed (R55, R71, R72). -/
theorem withSample_ct (hr : s.findPeer st = some r) : (s.withSample st b latch).ct =
    if r.restarts b = true then s.ct.filter (·.station ≠ st)
    else if (r.judged b latch).drift = r.drift ∧ (r.judged b latch).driftCount = r.driftCount then (s.withBeacon st b latch).ct
    else (((s.withBeacon st b latch).updatePeer st fun r => r.takeOffset (offsetOf b latch) latch).recomputeStation st).ct := by
  have hx := withBeacon_findPeer (b := b) (latch := latch) hr
  have hd : (r.withBeacon b latch).drift = (r.run b).drift := by rw [withBeacon_eq]
  have hn : (r.withBeacon b latch).driftCount = (r.run b).driftCount := by rw [withBeacon_eq]
  rw [State.withSample, offsetStep_eq hx, withBeacon_takeOffset]
  simp only [hd, hn]
  by_cases h : r.restarts b = true
  · rw [if_pos (judged_of_restart h), if_pos h]
    simpa [h] using withBeacon_ct (b := b) (latch := latch) hr
  · have hrun : r.run b = r := if_neg h
    rw [if_neg h, hrun]
    split <;> simp

theorem withSample_frame (s : State) (st : Station) (b : BeaconBody) (latch : Time) :
    (s.withSample st b latch).tb = s.tb ∧ (s.withSample st b latch).au = s.au ∧
      (s.withSample st b latch).lc = (s.withBeacon st b latch).lc := by
  simp [State.withSample, State.withBeacon]

/-- A beacon counts nothing by itself (R50). -/
theorem withBeacon_keepsCounts (s : State) (st : Station) (b : BeaconBody) (latch : Time) : s.KeepsCounts (s.withBeacon st b latch) := by
  have restart : ∀ u : State, u.KeepsCounts (u.restartCheck st b) := fun u => by
    unfold State.restartCheck
    split
    · exact .refl
    · split
      · have dropped : u.KeepsCounts ((u.updatePeer st PeerRecord.restarted).dropClaims st) := .of_blocks
        exact dropped.trans (askClaims_keepsCounts _)
      · exact .refl
  unfold State.withBeacon
  exact ((hear_keepsCounts st latch fun _ => beaconEpoch b).trans (restart _)).trans .of_blocks

theorem takeBeacon_findPeer (hr : s.findPeer st = some r) : (s.takeBeacon st b latch).findPeer st =
    some (r.afterBeacon b latch ((s.withSample st b latch).claimsOf st).length) := by
  have hy := withSample_findPeer (b := b) (latch := latch) hr
  obtain ⟨hview, -, -⟩ := viewCheck_spec (b := b) hy
  have hstation := (findPeer_some hview).2
  refine (findPeer_updatePeer (f := fun r => { r with lastFresh := some b.fresh }) (by exact hstation) hview).trans ?_
  rw [withBeacon_takeOffset, withBeacon_eq]
  rfl

theorem takeBeacon_findPeer_other (hr : s.findPeer st = some r) (h : st' ≠ st) :
    (s.takeBeacon st b latch).findPeer st' = s.findPeer st' := by
  obtain ⟨-, hview, -⟩ := viewCheck_spec (b := b) (withSample_findPeer (b := b) (latch := latch) hr)
  rw [takeBeacon_eq, findPeer_updatePeer_other (f := fun r => { r with lastFresh := some b.fresh }) (fun _ => rfl) h, hview st' h,
    withSample_findPeer_other hr h]

/-- Of the handling of a beacon, the view check alone can raise a flag (R56). -/
theorem takeBeacon_flag (hr : s.findPeer st = some r) (a : Alarm) : a.inSet (s.takeBeacon st b latch).au.flags =
    (a.inSet s.au.flags || (a == .viewGap && (!b.fresh && b.liveCount.toNat != ((s.withSample st b latch).claimsOf st).length &&
      (r.run b).mismatch != 0))) := by
  obtain ⟨-, -, hview⟩ := viewCheck_spec (b := b) (withSample_findPeer (b := b) (latch := latch) hr)
  obtain ⟨-, hau, -⟩ := withSample_frame s st b latch
  have last : (s.takeBeacon st b latch).au = ((s.withSample st b latch).viewCheck st b).au := by simp [takeBeacon_eq]
  rw [last, hview, hau, withBeacon_takeOffset, withBeacon_eq]

theorem exec_beaconReceived (hrec : s.receiving = true) (hst : st ≠ s.station) (hl : s.lc.latch = some latch) :
    exec (.beaconReceived st b) s = .next (((s.takeBeacon st b latch).countGood.endReception).settle) := by
  unfold exec execBeaconReceived
  exact (occurs_of_enabled hrec _ s).trans (congrArg _ (takeFrame_of_other hst hl _))

/-- Expiry points afresh after the record of a station is set rest on D, the sample count and the state of the record that is set (R71). -/
theorem recomputeStation_updatePeer {u : State} {x y : PeerRecord} (hr : s.findPeer st = some r) (hx : x.station = st) (hc : u.ct = s.ct)
    (htb : u.tb = s.tb) (hu : u.findPeer st = some y) (hd : x.drift = y.drift) (hn : x.driftCount = y.driftCount) (hq : x.state = y.state) :
    ((s.updatePeer st fun _ => x).recomputeStation st).ct = (u.recomputeStation st).ct :=
  recomputeStation_congr (by simp [hc]) (by simp [htb]) hu (findPeer_updatePeer hx hr) hd hn hq

/-- Settles O37: the six steps of a beacon, and the count of a good frame after them. -/
theorem beaconReceived : Obligations.BeaconReceived := by
  intro st b r latch s hrec hst hl hr epochLength restart run judged setTo afresh heard sampled claims held liveTags
  have hrestart : restart = r.restarts b := by
    simp only [restart, PeerRecord.restarts, Bool.decide_and, Bool.decide_eq_true, Bool.beq_eq_decide_eq]
  have hrun : run = r.run b := by
    simp only [run, hrestart]
    rfl
  have hjudged : judged = r.judged b latch := by
    simp only [judged, hrun]
    rfl
  have hset : ∀ ct x, { s with ct := ct, pr := setTo x } = ({ s with ct := ct } : State).updatePeer st fun _ => x := fun ct x =>
    (updatePeer_eq (s := { s with ct := ct }) st fun _ => x).symm
  have hown := (findPeer_some hr).2
  have hheard : heard = if r.state = .quiet then ((s.withHeard st latch fun _ => beaconEpoch b).recomputeStation st).ct else s.ct := by
    have hold : (s.withHeard st latch fun _ => beaconEpoch b).findPeer st = some (r.heard latch (beaconEpoch b)) :=
      findPeer_updatePeer hown hr
    have same : afresh { s with pr := setTo { r with state := .live } } = _ := (congrArg afresh (hset s.ct _)).trans
      (recomputeStation_updatePeer hr hown (by simp [State.withHeard]) (by simp [State.withHeard]) hold rfl rfl rfl)
    simp only [heard, same]
  have hclaims : (s.withSample st b latch).ct = claims := by
    rw [withSample_ct hr]
    simp only [claims, hrestart, sampled, hjudged]
    by_cases h : r.restarts b = true
    · rw [if_pos h, if_pos h]
    · rw [if_neg h, if_neg h]
      have hbeacon : (s.withBeacon st b latch).ct = heard := by rw [withBeacon_ct hr, if_neg h, hheard]
      have hrunr : r.run b = r := if_neg h
      have hx : (r.judged b latch).station = st := by rw [PeerRecord.judged, (takeOffset_station_state _ _ _).1, hrunr, hown]
      have hfind := findPeer_updatePeer (f := fun r => r.takeOffset (offsetOf b latch) latch)
        ((takeOffset_station_state _ _ _).1.trans (findPeer_some (withBeacon_findPeer hr)).2) (withBeacon_findPeer (b := b) (latch := latch) hr)
      have same : afresh { s with ct := heard, pr := setTo { r.judged b latch with state := .live } } = _ :=
        (congrArg afresh (hset heard _)).trans (recomputeStation_updatePeer (s := { s with ct := heard }) hr hx (by simpa using hbeacon)
          (by simp [State.withBeacon]) hfind (by rw [withBeacon_takeOffset]) (by rw [withBeacon_takeOffset])
          (by rw [withBeacon_takeOffset, withBeacon_eq]))
      simp only [hbeacon, same]
  have ends := endReception_settle_frameEnds (u := s.takeBeacon st b latch)
  have hheld : ((s.withSample st b latch).claimsOf st).length = held := by rw [State.claimsOf, hclaims]; rfl
  have counts : s.KeepsCounts (s.withBeacon st b latch) := withBeacon_keepsCounts s st b latch
  have hlc : (s.takeBeacon st b latch).lc = (s.withBeacon st b latch).lc := by
    simpa [takeBeacon_eq] using (withSample_frame s st b latch).2.2
  have hgood : (s.takeBeacon st b latch).lc.goodRun = s.lc.goodRun := by rw [hlc, counts.goodRun]
  have hbad : (s.takeBeacon st b latch).lc.badCount = s.lc.badCount := by rw [hlc, counts.badCount]
  have hpr : ((s.takeBeacon st b latch).countGood.endReception).settle.findPeer = (s.takeBeacon st b latch).findPeer :=
    findPeer_congr (by simp)
  refine ⟨_, r.afterBeacon b latch held, exec_beaconReceived hrec hst hl, ?record, rfl, rfl, rfl, rfl, rfl, rfl, rfl, rfl, rfl, rfl, ?lastOffset,
    ?offsetLatch, ?drift, ?driftCount, ?jumps, ?mismatch, ?viewGap, fun st' h => ?others, ?claims, ?queue, ends.receiver, ends.latch,
    ?goodRun, ?badCount, ?lineNoisy, ?rest⟩
  case record => rw [hpr, takeBeacon_findPeer hr, hheld]
  case lastOffset | offsetLatch | drift | driftCount | jumps => rw [hjudged]; rfl
  case mismatch => rw [hrun]; rfl
  case viewGap => rw [ends.viewGap, takeBeacon_flag hr, hheld, hrun, BEq.rfl, Bool.true_and]
  case others => rw [hpr, takeBeacon_findPeer_other hr h]
  case claims => rw [← hclaims]; simp [takeBeacon_eq]
  case queue => rw [ends.queue, hlc, withBeacon_queue hr, hrestart]; rfl
  case goodRun => rw [ends.goodRun, hgood]
  case badCount => rw [ends.badCount, hgood, hbad]
  case lineNoisy =>
    have kept : Alarm.lineNoisy.inSet (s.takeBeacon st b latch).au.flags = Alarm.lineNoisy.inSet s.au.flags := by
      rw [takeBeacon_flag hr, beq_false_of_ne (by decide), Bool.false_and, Bool.or_false]
    rw [ends.lineNoisy, hgood, kept]
  case rest => simp [State.takeBeacon]

end Sys2Proof.Machine
end

section
/-! SUPPORT. The blocked pieces are the union of the guarded intervals, in order and apart (R99). -/

namespace Sys2Proof.Machine

open Sys2Proof

/-- A point lies inside one of the intervals. -/
def covers (l : List Interval) (x : Int) : Prop := ∃ g ∈ l, g.1 ≤ x ∧ x < g.2

/-- One interval starts no later than another. -/
abbrev startsBy : Interval → Interval → Prop := Order.Preimage Prod.fst (· ≤ ·)

/-- Intervals that hold a point each, each of them after the end of those before it, with a gap. -/
structure Separate (l : List Interval) : Prop where
  nonempty : ∀ p ∈ l, p.1 < p.2
  apart : l.Pairwise fun p q => p.2 < q.1

theorem covers_cons {g : Interval} {l : List Interval} {x : Int} : covers (g :: l) x ↔ (g.1 ≤ x ∧ x < g.2) ∨ covers l x := by
  simp [covers]

/-- The ends of separate intervals are in order. -/
theorem Separate.ends {l : List Interval} (h : Separate l) : (l.map Prod.snd).Pairwise (· < ·) := by
  refine List.pairwise_map.mpr (h.apart.imp_of_mem fun {p q} _ hq hpq => ?_)
  have := h.nonempty q hq
  omega

/-! ## The intervals in order of their starts -/

/-- The order in which the guarded intervals are merged is that of the library's insertion sort. -/
theorem foldr_insertByStart_eq (l : List Interval) :
    l.foldr insertByStart [] = l.insertionSort startsBy := by
  have insert (p : Interval) (l : List Interval) : insertByStart p l = l.orderedInsert startsBy p := by
    induction l with
    | nil => rfl
    | cons q qs ih =>
      rw [insertByStart, List.orderedInsert_cons, ih]
      rfl
  induction l with
  | nil => rfl
  | cons p l ih => rw [List.foldr_cons, ih, insert, List.insertionSort_cons]

theorem mem_foldr_insertByStart {g : Interval} {l : List Interval} : g ∈ l.foldr insertByStart [] ↔ g ∈ l := by
  rw [foldr_insertByStart_eq, List.mem_insertionSort]

theorem pairwise_foldr_insertByStart (l : List Interval) : (l.foldr insertByStart []).Pairwise startsBy := by
  rw [foldr_insertByStart_eq]
  exact List.pairwise_insertionSort _ l

/-! ## Merging -/

/-- The piece under construction, extended by an interval that it overlaps or touches, still starts before all that follow. -/
theorem pairwise_extended {piece q : Interval} {l : List Interval} (h : (piece :: q :: l).Pairwise startsBy) (e : Int) :
    ((piece.1, e) :: l).Pairwise startsBy := by
  obtain ⟨hpiece, hl⟩ := List.pairwise_cons.mp h
  exact List.pairwise_cons.mpr ⟨fun g hg => hpiece g (List.mem_cons_of_mem q hg), hl.of_cons⟩

/-- Merging keeps the union (R99). -/
theorem covers_mergeInto {piece : Interval} {l : List Interval} (h : (piece :: l).Pairwise startsBy) (x : Int) :
    covers (mergeInto piece l) x ↔ covers (piece :: l) x := by
  induction l generalizing piece with
  | nil => rfl
  | cons q qs ih =>
    have hq : piece.1 ≤ q.1 := List.rel_of_pairwise_cons h List.mem_cons_self
    rw [mergeInto]
    split
    next touch =>
      simp only [ih (pairwise_extended h _), covers_cons, ← or_assoc]
      exact or_congr_left (by omega)
    next => simp only [covers_cons, ih h.of_cons]

/-- No merged piece starts before the piece under construction. -/
theorem mergeInto_starts {piece : Interval} {l : List Interval} (h : (piece :: l).Pairwise startsBy) :
    ∀ p ∈ mergeInto piece l, piece.1 ≤ p.1 := by
  induction l generalizing piece with
  | nil => simp [mergeInto]
  | cons q qs ih =>
    have hq : piece.1 ≤ q.1 := List.rel_of_pairwise_cons h List.mem_cons_self
    rw [mergeInto]
    split
    next => exact ih (pairwise_extended h _)
    next => exact List.forall_mem_cons.mpr ⟨le_rfl, fun p hp => hq.trans (ih h.of_cons p hp)⟩

/-- Merged pieces are separate: an interval that does not touch the piece under construction begins a new one (R99). -/
theorem mergeInto_separate {piece : Interval} {l : List Interval} (h : (piece :: l).Pairwise startsBy)
    (hne : ∀ g ∈ piece :: l, g.1 < g.2) : Separate (mergeInto piece l) := by
  induction l generalizing piece with
  | nil => exact ⟨hne, List.pairwise_singleton _ _⟩
  | cons q qs ih =>
    obtain ⟨hpiece, hrest⟩ := List.forall_mem_cons.mp hne
    rw [mergeInto]
    split
    next =>
      have extended : piece.1 < max piece.2 q.2 := hpiece.trans_le (le_max_left _ _)
      exact ih (pairwise_extended h _) (List.forall_mem_cons.mpr ⟨extended, (List.forall_mem_cons.mp hrest).2⟩)
    next gap =>
      have rest := ih h.of_cons hrest
      have after : ∀ p ∈ mergeInto q qs, piece.2 < p.1 := fun p hp =>
        (not_le.mp gap).trans_le (mergeInto_starts h.of_cons p hp)
      exact ⟨List.forall_mem_cons.mpr ⟨hpiece, rest.nonempty⟩, List.pairwise_cons.mpr ⟨after, rest.apart⟩⟩

/-! ## The blocked pieces -/

/-- The blocked pieces are the union of the guarded intervals (R99). -/
theorem covers_blockedPieces (guarded : List Interval) (x : Int) : covers (blockedPieces guarded) x ↔ covers guarded x := by
  have sorted : covers (guarded.foldr insertByStart []) x ↔ covers guarded x := by simp only [covers, mem_foldr_insertByStart]
  rw [← sorted, blockedPieces]
  split
  next empty => rw [empty]
  next p ps order => rw [order, covers_mergeInto (order ▸ pairwise_foldr_insertByStart guarded)]

/-- The blocked pieces are separate, so that they are maximal (R99). -/
theorem blockedPieces_separate {guarded : List Interval} (h : ∀ g ∈ guarded, g.1 < g.2) : Separate (blockedPieces guarded) := by
  rw [blockedPieces]
  split
  next => exact ⟨nofun, .nil⟩
  next p ps order =>
    exact mergeInto_separate (order ▸ pairwise_foldr_insertByStart guarded) fun g hg => h g (mem_foldr_insertByStart.mp (order ▸ hg))

end Sys2Proof.Machine
end

section
/-! SUPPORT. The starts where an activity of a length fits: free runs (R100), and the search of a commit over its candidates. -/

namespace Sys2Proof.Machine

open Sys2Proof

variable {guarded pieces : List Interval} {ws t u w : Int} {slack duration n m : Nat}

/-! ## Fitting -/

/-- An activity of some length misses intervals that hold a point each exactly when none of its points lies inside one. -/
theorem missesAll_iff (hne : ∀ g ∈ guarded, g.1 < g.2) (hn : 0 < n) :
    missesAll guarded t n ↔ ∀ x, t ≤ x → x < t + n → ¬ covers guarded x := by
  constructor
  · rintro h x hlow hhigh ⟨g, hg, hin⟩
    have := h g hg
    omega
  · intro h g hg
    have := hne g hg
    by_contra hmeet
    exact h (max t g.1) (by omega) (by omega) ⟨g, hg, by omega⟩

/-- What fits between the blocked pieces fits between the guarded intervals (R99). -/
theorem missesAll_blockedPieces (hne : ∀ g ∈ guarded, g.1 < g.2) (hn : 0 < n) :
    missesAll (blockedPieces guarded) t n ↔ missesAll guarded t n := by
  simp only [missesAll_iff (blockedPieces_separate hne).nonempty hn, missesAll_iff hne hn, covers_blockedPieces]

theorem missesAll_of_le (h : missesAll guarded t n) (hm : m ≤ n) : missesAll guarded t m := fun g hg => by
  have := h g hg
  omega

/-! ## Free runs -/

theorem le_runEnd_iff {e : Int} : e ≤ runEnd pieces w t ↔ e ≤ w ∧ ∀ p ∈ pieces, t < p.1 → e ≤ p.1 := by
  unfold runEnd
  induction pieces generalizing w with
  | nil => simp
  | cons p pieces ih =>
    rw [List.foldl_cons, ih, List.forall_mem_cons, ← and_assoc]
    refine and_congr_left' ?_
    split <;> omega

theorem insidePiece_iff : insidePiece pieces t = true ↔ covers pieces t := by simp [insidePiece, covers]

/-- A free run is as long as a length that ends inside the window exactly when that length fits (R100). -/
theorem le_freeRun_iff (hne : ∀ p ∈ pieces, p.1 < p.2) (hn : 0 < n) (hw : t + n ≤ w) :
    (n : Int) ≤ freeRun pieces w t ↔ missesAll pieces t n := by
  unfold freeRun
  split
  next inside =>
    obtain ⟨p, hp, hin⟩ := insidePiece_iff.mp inside
    refine iff_of_false (by omega) fun h => ?_
    have := h p hp
    omega
  next outside =>
    have hout : ∀ p ∈ pieces, ¬ (p.1 ≤ t ∧ t < p.2) := fun p hp hin => outside (insidePiece_iff.mpr ⟨p, hp, hin⟩)
    have run : (n : Int) ≤ runEnd pieces w t - t ↔ t + n ≤ runEnd pieces w t := by omega
    rw [run, le_runEnd_iff, and_iff_right hw]
    refine forall₂_congr fun p hp => ?_
    have := hout p hp
    have := hne p hp
    omega

/-! ## Candidates -/

/-- A start inside the slack. -/
def InSlack (ws : Int) (slack : Nat) (t : Int) : Prop := ws ≤ t ∧ t ≤ ws + (slack : Int)

/-- The earliest start inside the slack where a length fits. -/
def Earliest (guarded : List Interval) (ws : Int) (slack : Nat) (t : Int) (n : Nat) : Prop :=
  InSlack ws slack t ∧ missesAll guarded t n ∧ ∀ u, InSlack ws slack u → u < t → ¬ missesAll guarded u n

/-- A length fits at no start inside the slack. -/
def Nowhere (guarded : List Interval) (ws : Int) (slack n : Nat) : Prop := ∀ u, InSlack ws slack u → ¬ missesAll guarded u n

theorem Earliest.not_nowhere (h : Earliest guarded ws slack t n) : ¬ Nowhere guarded ws slack n := fun hno => hno t h.1 h.2.1

theorem Earliest.unique (ht : Earliest guarded ws slack t n) (hu : Earliest guarded ws slack u n) : t = u := by
  obtain ⟨hin, hfits, hfirst⟩ := ht
  obtain ⟨hin', hfits', hfirst'⟩ := hu
  exact le_antisymm (not_lt.mp fun h => hfirst u hin' h hfits') (not_lt.mp fun h => hfirst' t hin h hfits)

/-- The candidates are in order. -/
theorem candidates_pairwise (h : Separate pieces) : (candidates pieces ws slack).Pairwise (· < ·) := by
  refine List.pairwise_cons.mpr ⟨fun c hc => ?_, h.ends.filter _⟩
  have hin := (List.mem_filter.mp hc).2
  simp only [Bool.and_eq_true, decide_eq_true_eq] at hin
  exact hin.1

theorem mem_candidates_of_end {p : Interval} (hp : p ∈ pieces) (hlow : ws < p.2) (hhigh : p.2 ≤ ws + slack) :
    p.2 ∈ candidates pieces ws slack :=
  List.mem_cons_of_mem ws (List.mem_filter.mpr ⟨List.mem_map_of_mem hp, by simp [hlow, hhigh]⟩)

/-- A length that fits inside the slack fits at a candidate no later: a start that is no candidate can be moved earlier by 1 µs, for no
piece ends there. -/
theorem exists_candidate (hin : InSlack ws slack t) (hfits : missesAll pieces t n) :
    ∃ c ∈ candidates pieces ws slack, c ≤ t ∧ missesAll pieces c n := by
  obtain ⟨hlow, hhigh⟩ := hin
  induction t, hlow using Int.leInduction with
  | base => exact ⟨ws, List.mem_cons_self, le_rfl, hfits⟩
  | succ t hlow ih =>
    by_cases hend : ∃ p ∈ pieces, p.2 = t + 1
    · obtain ⟨p, hp, he⟩ := hend
      exact ⟨t + 1, he ▸ mem_candidates_of_end hp (by omega) (by omega), le_rfl, hfits⟩
    · have earlier : missesAll pieces t n := fun p hp => by
        have := hfits p hp
        have : p.2 ≠ t + 1 := fun h => hend ⟨p, hp, h⟩
        omega
      obtain ⟨c, hc, hct, hcfits⟩ := ih earlier (by omega)
      exact ⟨c, hc, by omega, hcfits⟩

/-- The free run of a start inside the slack tells which lengths up to the full duration fit between the guarded intervals (R100). -/
theorem le_freeRun_blockedPieces_iff (hne : ∀ g ∈ guarded, g.1 < g.2) (hin : InSlack ws slack t) (hn : 0 < n) (hd : n ≤ duration) :
    (n : Int) ≤ freeRun (blockedPieces guarded) (ws + (duration + slack : Nat)) t ↔ missesAll guarded t n := by
  obtain ⟨-, hhigh⟩ := hin
  rw [le_freeRun_iff (blockedPieces_separate hne).nonempty hn (by omega), missesAll_blockedPieces hne hn]

/-! ## The search -/

/-- The first candidate whose free run is long enough for a length (R101, R102). -/
def firstFree (guarded : List Interval) (ws : Int) (duration slack n : Nat) : Option Int :=
  (candidates (blockedPieces guarded) ws slack).find? fun c =>
    (n : Int) ≤ freeRun (blockedPieces guarded) (ws + (duration + slack : Nat)) c

/-- In a list in order, what a search finds is the least that it accepts. -/
theorem find?_least {l : List Int} {accepts : Int → Bool} (hl : l.Pairwise (· < ·)) (h : l.find? accepts = some t) :
    ∀ c ∈ l, accepts c = true → t ≤ c := by
  intro c hc hac
  obtain ⟨-, before, after, rfl, hbefore⟩ := List.find?_eq_some_iff_append.mp h
  rcases List.mem_append.mp hc with hb | ha
  · simpa [hac] using hbefore c hb
  · rcases List.mem_cons.mp ha with rfl | ha
    · exact le_rfl
    · exact (List.rel_of_pairwise_cons (List.pairwise_append.mp hl).2.1 ha).le

/-- The search finds the earliest start inside the slack where the length fits, and nothing when it fits nowhere (R100). -/
theorem firstFree_spec (hne : ∀ g ∈ guarded, g.1 < g.2) (hn : 0 < n) (hd : n ≤ duration) :
    (∃ t, firstFree guarded ws duration slack n = some t ∧ Earliest guarded ws slack t n) ∨
      firstFree guarded ws duration slack n = none ∧ Nowhere guarded ws slack n := by
  have free {c : Int} (hc : c ∈ candidates (blockedPieces guarded) ws slack) :=
    le_freeRun_blockedPieces_iff hne (candidates_range hc) hn hd
  have candidate {u : Int} (hin : InSlack ws slack u) (hfits : missesAll guarded u n) :
      ∃ c ∈ candidates (blockedPieces guarded) ws slack, c ≤ u ∧ missesAll guarded c n := by
    simpa only [missesAll_blockedPieces hne hn] using exists_candidate hin ((missesAll_blockedPieces hne hn).mpr hfits)
  cases h : firstFree guarded ws duration slack n with
  | none =>
    refine .inr ⟨rfl, fun u hin hfits => ?_⟩
    obtain ⟨c, hc, -, hcfits⟩ := candidate hin hfits
    exact List.find?_eq_none.mp h c hc (decide_eq_true ((free hc).mpr hcfits))
  | some t =>
    have ht : t ∈ candidates (blockedPieces guarded) ws slack := List.mem_of_find?_eq_some h
    have hfree := List.find?_some h
    refine .inl ⟨t, rfl, candidates_range ht, (free ht).mp (of_decide_eq_true hfree), fun u hin hlt hfits => ?_⟩
    obtain ⟨c, hc, hcu, hcfits⟩ := candidate hin hfits
    have := find?_least (candidates_pairwise (blockedPieces_separate hne)) h c hc (decide_eq_true ((free hc).mpr hcfits))
    omega

end Sys2Proof.Machine
end

section
/-! O29: the earliest placement that fits, and the intervals that block it. -/

namespace Sys2Proof.Machine

open Sys2Proof

variable {guarded : List Interval} {ws t : Int} {slack duration m : Nat} {least : Option Nat}

/-! ## The three outcomes of a placement -/

theorem place_full (h : firstFree guarded ws duration slack duration = some t) :
    place (blockedPieces guarded) ws duration slack least = .grant t duration := by
  unfold firstFree at h
  simp only [place, h]

theorem place_clipped (h : firstFree guarded ws duration slack duration = none) (hm : firstFree guarded ws duration slack m = some t) :
    place (blockedPieces guarded) ws duration slack (some m) =
      .clip t (min duration (freeRun (blockedPieces guarded) (ws + (duration + slack : Nat)) t).toNat) := by
  unfold firstFree at h hm
  simp only [place, h, hm]

theorem place_none (h : firstFree guarded ws duration slack duration = none)
    (hm : ∀ m, least = some m → firstFree guarded ws duration slack m = none) :
    place (blockedPieces guarded) ws duration slack least = .skipStrongerPeer := by
  unfold firstFree at h hm
  cases least with
  | none => simp only [place, h]
  | some m => simp only [place, h, hm m rfl]

/-- The greatest length that fits at a start. -/
def Greatest (guarded : List Interval) (t : Int) (n : Nat) : Prop := missesAll guarded t n ∧ ¬ missesAll guarded t (n + 1)

theorem Greatest.unique {n k : Nat} (hn : Greatest guarded t n) (hk : Greatest guarded t k) : n = k :=
  le_antisymm (not_lt.mp fun h => hk.2 (missesAll_of_le hn.1 h)) (not_lt.mp fun h => hn.2 (missesAll_of_le hk.1 h))

/-- Where the full duration does not fit, the length of a clip is the greatest that fits, and at least min duration (R102). -/
theorem clip_length (hne : ∀ g ∈ guarded, g.1 < g.2) (hm : 0 < m) (hin : InSlack ws slack t) (hfits : missesAll guarded t m)
    (hmd : m ≤ duration) (hfull : ¬ missesAll guarded t duration) :
    let length := min duration (freeRun (blockedPieces guarded) (ws + (duration + slack : Nat)) t).toNat
    m ≤ length ∧ Greatest guarded t length := by
  intro length
  have free (n : Nat) (hn : 0 < n) (hd : n ≤ duration) := le_freeRun_blockedPieces_iff hne hin hn hd
  have hlow := (free m hm hmd).mpr hfits
  have hshort := mt (free duration (by omega) le_rfl).mp hfull
  have hml : m ≤ length := by omega
  exact ⟨hml, (free length (by omega) (by omega)).mp (by omega), mt (free (length + 1) (by omega) (by omega)).mpr (by omega)⟩

/-! ## What the rules ask of a decision -/

/-- What R101 to R103 ask of the decision for an occurrence that is not skipped in JOINING. -/
def Decision.AsRuled (guarded : List Interval) (ws : Int) (duration slack : Nat) (least : Option Nat) : Decision → Prop
  | .grant t length => length = duration ∧ Earliest guarded ws slack t duration
  | .clip t length => Nowhere guarded ws slack duration ∧
      ∃ m, least = some m ∧ Earliest guarded ws slack t m ∧ m ≤ length ∧ Greatest guarded t length
  | .skipStrongerPeer => Nowhere guarded ws slack duration ∧ ∀ m, least = some m → Nowhere guarded ws slack m
  | .skipJoining => False

theorem place_asRuled (hne : ∀ g ∈ guarded, g.1 < g.2) (hd : 0 < duration) (hm : ∀ m, least = some m → 0 < m ∧ m ≤ duration) :
    (place (blockedPieces guarded) ws duration slack least).AsRuled guarded ws duration slack least := by
  rcases firstFree_spec hne hd le_rfl with ⟨t, ht, hearliest⟩ | ⟨hnone, hnowhere⟩
  · rw [place_full ht]
    exact ⟨rfl, hearliest⟩
  · cases least with
    | none =>
      rw [place_none (least := none) hnone nofun]
      exact ⟨hnowhere, nofun⟩
    | some m =>
      obtain ⟨hpos, hle⟩ := hm m rfl
      rcases firstFree_spec hne hpos hle with ⟨t, ht, hearliest⟩ | ⟨hnone', hnowhere'⟩
      · rw [place_clipped hnone ht]
        have ⟨hin, hfits, _⟩ := hearliest
        exact ⟨hnowhere, m, rfl, hearliest, clip_length hne hpos hin hfits hle (hnowhere t hin)⟩
      · rw [place_none hnone (by rintro _ ⟨⟩; exact hnone')]
        exact ⟨hnowhere, by rintro _ ⟨⟩; exact hnowhere'⟩

/-- The rules leave one decision. -/
theorem Decision.AsRuled.unique {d d' : Decision} (h : d.AsRuled guarded ws duration slack least)
    (h' : d'.AsRuled guarded ws duration slack least) : d = d' := by
  cases d with
  | grant t length =>
    obtain ⟨rfl, ht⟩ := h
    cases d' with
    | grant t' length' =>
      obtain ⟨rfl, ht'⟩ := h'
      rw [ht.unique ht']
    | clip | skipStrongerPeer => exact absurd h'.1 ht.not_nowhere
    | skipJoining => exact h'.elim
  | clip t length =>
    obtain ⟨hno, m, hm, ht, -, hlen⟩ := h
    cases d' with
    | grant => exact absurd hno h'.2.not_nowhere
    | clip t' length' =>
      obtain ⟨-, m', hm', ht', -, hlen'⟩ := h'
      obtain rfl : m = m' := Option.some.inj (hm.symm.trans hm')
      obtain rfl := ht.unique ht'
      rw [hlen.unique hlen']
    | skipStrongerPeer => exact absurd (h'.2 m hm) ht.not_nowhere
    | skipJoining => exact h'.elim
  | skipStrongerPeer =>
    obtain ⟨hno, hleast⟩ := h
    cases d' with
    | grant => exact absurd hno h'.2.not_nowhere
    | clip =>
      obtain ⟨-, m, hm, ht, -⟩ := h'
      exact absurd (hleast m hm) ht.not_nowhere
    | skipStrongerPeer => rfl
    | skipJoining => exact h'.elim
  | skipJoining => exact h.elim

/-- A placement gives exactly the decision that the rules ask for (R101 to R103). -/
theorem place_eq_iff (hne : ∀ g ∈ guarded, g.1 < g.2) (hd : 0 < duration) (hm : ∀ m, least = some m → 0 < m ∧ m ≤ duration)
    (d : Decision) : place (blockedPieces guarded) ws duration slack least = d ↔ d.AsRuled guarded ws duration slack least :=
  ⟨fun h => h ▸ place_asRuled hne hd hm, (place_asRuled hne hd hm).unique⟩

/-! ## The decision of a commit -/

theorem decide_joining {s : State} {e : Entry} (hj : s.part = .joining) (hc : e.effClass ≠ .critical) : s.decide e = .skipJoining :=
  if_pos (by simp [hj, hc])

theorem decide_placed {s : State} {e : Entry} (h : s.part ≠ .joining ∨ e.effClass = .critical) : s.decide e =
    place (blockedPieces (s.blocking e.activity
        (s.distance e.windowStart, s.distance e.windowStart + (e.request.duration + e.request.slack : Nat))))
      (s.distance e.windowStart) e.request.duration e.request.slack e.request.minDuration :=
  if_neg (by simpa [imp_iff_not_or] using h)

/-- Settles O29: a placement is the one decision that the rules leave, and the intervals that block it are those of the entries held. -/
theorem earliestPlacement : Obligations.EarliestPlacement := by
  refine ⟨fun _ _ => decide_joining, fun _ _ => decide_placed, ?_, fun s x own => ⟨fun g => List.mem_flatMap, ?_⟩⟩
  · intro guarded ws duration slack least hne hd hm inSlack earliest nowhere
    have ruled := place_eq_iff (ws := ws) (slack := slack) hne hd hm
    exact ⟨fun t length => ruled (.grant t length), fun t length => ruled (.clip t length), ruled .skipStrongerPeer⟩
  · exact fun c r hr d1 d2 hp hs g => mem_blockingOf x own c r hr d1 d2 hp hs g

end Sys2Proof.Machine
end

section
/-! O41: the rounding of a projection and of its margin, occupied intervals, and expiry points. -/

namespace Sys2Proof.Machine

open Sys2Proof

variable {s : State} {r : PeerRecord} {c : ClaimEntry} {n : Nat}

/-! ## Rounding -/

/-- A 16,000,000th is rounded to a nearest integer, and at a half to the one further from zero (chapter 0, Arithmetic). -/
theorem roundDiv_nearest (x : Int) : 2 * (16000000 * roundDiv x 16000000 - x).natAbs ≤ 16000000 ∧
    (2 * (16000000 * roundDiv x 16000000 - x).natAbs = 16000000 → x.natAbs < (16000000 * roundDiv x 16000000).natAbs) := by
  unfold roundDiv
  have : ((16000000 : Nat) : Int) = 16000000 := rfl
  rw [this]
  split <;> omega

theorem roundDiv_neg (a : Int) (b : Nat) : roundDiv (-a) b = -roundDiv a b := by
  rcases lt_trichotomy a 0 with ha | rfl | ha
  · rw [roundDiv, roundDiv, if_pos (by omega), if_neg (by omega), neg_neg]
  · have half : (b : Int) / (2 * b) = 0 := by
      rcases Nat.eq_zero_or_pos b with rfl | hb
      · rfl
      · exact Int.ediv_eq_zero_of_lt (by omega) (by omega)
    simp [roundDiv, half]
  · rw [roundDiv, roundDiv, if_neg (by omega), if_pos (by omega), neg_neg]

theorem sub_projected (drift e : Int) : e - projected drift e = roundDiv (e * drift) 16000000 := sub_sub_cancel _ _

theorem projected_neg (drift e : Int) : projected drift (-e) = -projected drift e := by
  rw [projected, projected, neg_mul, roundDiv_neg]
  ring

/-! ## Margins -/

/-- The quotient rounded up is the least number that, times the divisor, is not below the dividend. -/
theorem ceilDiv_le_iff {a b m : Nat} (hb : 0 < b) : ceilDiv a b ≤ m ↔ a ≤ b * m := by
  rw [ceilDiv, ← Nat.ceilDiv_eq_add_pred_div]
  exact ceilDiv_le_iff_le_mul hb

theorem margin_spec (rate : Nat) (e : Int) : e.natAbs * rate ≤ 1000000 * (margin rate e - 4).toNat ∧ 4 ≤ margin rate e ∧
    ∀ m : Nat, e.natAbs * rate ≤ 1000000 * m → margin rate e ≤ 4 + (m : Int) := by
  have hm : margin rate e = 4 + (ceilDiv (e.natAbs * rate) 1000000 : Nat) := rfl
  have least (m : Nat) := ceilDiv_le_iff (a := e.natAbs * rate) (m := m) (show 0 < 1000000 by decide)
  rw [hm]
  refine ⟨(least _).mp (by omega), by omega, fun m h => ?_⟩
  have := (least m).mpr h
  omega

theorem marginRate_suspect (h : s.tb.monitor = .clockSuspect) : s.marginRate r = 200 := if_pos h

theorem marginRate_ok (h : s.tb.monitor ≠ .clockSuspect) : s.marginRate r = if r.driftCount < 3 ∨ r.state = .quiet then 50 else 10 := by
  simp [State.marginRate, h]

/-! ## Expiry points -/

theorem expiryOf_unlimited (h : c.remaining = none) : s.expiryOf c = none := by rw [State.expiryOf, h]

/-- The last of some occurrences ends the window after its start (R73). -/
theorem endOf_last (hn : 1 ≤ n) :
    c.endOf (n - 1) = c.anchorOffset + ((n : Int) - 1) * ((c.period.getD 0 : Nat) : Int) + (c.window : Int) := by
  rw [ClaimEntry.endOf, ClaimEntry.startOf, Nat.cast_sub hn, Nat.cast_one]

/-- An entry with a last occurrence expires at the end of its occupied interval, unless that lies beyond the lease (R71). -/
theorem expiryOf_last (hr : s.findPeer c.station = some r) (hc : c.remaining = some n) (hn : 1 ≤ n) :
    let e : Int := c.anchorOffset + ((n : Int) - 1) * ((c.period.getD 0 : Nat) : Int) + (c.window : Int)
    let q : Int := projected r.drift e + margin (s.marginRate r) e
    s.expiryOf c = if q ≤ ((c.lease - c.anchorLocal).toNat : Int) then some (c.anchorLocal + BitVec.ofInt 32 q) else none := by
  intro e q
  have hq : (c.occupied r.drift (s.marginRate r) (n - 1)).2 = q := by rw [ClaimEntry.occupied, endOf_last hn]
  rw [State.expiryOf, hc, hr]
  simp only [hq]

/-- Settles O41: rounding and margin are the nearest and the least integers, and the rest is read off them. -/
theorem projectionRounding : Obligations.ProjectionRounding := by
  refine ⟨fun s chosen h => recomputeExpiry_eq chosen h, fun drift e => ?nearest, projected_neg, margin_spec, fun s r => ?rates,
    fun c drift rate j => rfl, fun s c r n hr hn => ?expiry⟩
  case nearest =>
    rw [sub_projected]
    exact roundDiv_nearest (e * drift)
  case rates =>
    refine ⟨marginRate_suspect, fun h few => ?_, fun h many live => ?_⟩
    · rw [marginRate_ok h, if_pos few]
    · rw [marginRate_ok h, if_neg (not_or.mpr ⟨not_lt.mpr many, live⟩)]
  case expiry =>
    intro e q
    refine ⟨expiryOf_unlimited, fun hc hq => ?_, fun hc hq => ?_⟩
    · exact (expiryOf_last hr hc hn).trans (if_pos hq)
    · exact (expiryOf_last hr hc hn).trans (if_neg (not_le.mpr hq))

end Sys2Proof.Machine
end

section
/-! O36: the deadlines of a claim entry and of the acknowledge wait. -/

namespace Sys2Proof.Machine

open Sys2Proof

variable {s : State} {st : Station} {tag : Tag} {c : ClaimEntry}

theorem removeClaim_eq (st : Station) (tag : Tag) :
    s.removeClaim st tag = { s with ct := s.ct.filter fun x => ¬ (x.station = st ∧ x.tag = tag) } := by
  have h : (s.ct.filter fun x => !(x.station == st && x.tag == tag)) = s.ct.filter fun x => ¬ (x.station = st ∧ x.tag = tag) :=
    List.filter_congr fun x _ => by rw [decide_not, Bool.decide_and]; rfl
  rw [← h]
  rfl

theorem exec_leaseDeadline (hw : s.working = true) (hf : s.findClaim st tag = some c) (hd : s.leaseDue c = true) :
    exec (.leaseDeadline st tag) s = .next (s.removeClaim st tag) := by
  have taken : s.takeLeaseDeadline st tag = s.removeClaim st tag := by
    rw [State.takeLeaseDeadline, hf]
    exact if_pos hd
  exact (occurs_of_enabled hw _ s).trans (congrArg _ taken)

theorem exec_expiryPoint (hw : s.working = true) (hf : s.findClaim st tag = some c) (hd : s.expiryDue c = true) :
    exec (.expiryPoint st tag) s = .next (s.removeClaim st tag) := by
  have taken : s.takeExpiryPoint st tag = s.removeClaim st tag := by
    rw [State.takeExpiryPoint, hf]
    exact if_pos hd
  exact (occurs_of_enabled hw _ s).trans (congrArg _ taken)

/-- Settles O36: a deadline of an entry, due, removes it; the acknowledge deadline, due, raises its alarm. -/
theorem claimAndClearDeadlines : Obligations.ClaimAndClearDeadlines := by
  refine ⟨fun st tag c s hw hf => ⟨fun hd => ?lease, fun expiry he hd => ?expiry⟩, fun s deadline hw ha hd => ?acknowledge⟩
  case lease =>
    have due : s.leaseDue c = true := decide_eq_true hd
    rw [exec_leaseDeadline hw hf due, removeClaim_eq]
  case expiry =>
    have due : s.expiryDue c = true := by
      rw [State.expiryDue, he]
      exact decide_eq_true hd
    rw [exec_expiryPoint hw hf due, removeClaim_eq]
  case acknowledge =>
    have due : s.ackDue = true := by
      rw [State.ackDue, ha]
      exact decide_eq_true hd
    have enabled : (s.working && s.ackDue) = true := by rw [hw, due, Bool.and_self]
    exact occurs_settles enabled (fun s => (s.onLc fun l => { l with ack := .expired }).raiseAlarm .clearUnacked) s

end Sys2Proof.Machine
end

section
/-! O48: rank as a total order (R84). -/

namespace Sys2Proof.Machine

open Sys2Proof

/-- A rank as a point of the lexicographic order that R84 describes. The station number stands reversed: the lower one is stronger. -/
def Rank.key (a : Rank) : ℕ ×ₗ ℤ ×ₗ ℕᵒᵈ := toLex (a.cls.number, toLex (a.credit, OrderDual.toDual a.station.toNat))

theorem Rank.stronger_iff (a b : Rank) : a.stronger b = true ↔ b.cls.number < a.cls.number ∨
    b.cls.number = a.cls.number ∧ (b.credit < a.credit ∨ b.credit = a.credit ∧ a.station.toNat < b.station.toNat) := by
  unfold Rank.stronger
  split
  case isTrue classes => simp [classes.symm]
  case isFalse classes =>
    rw [not_not] at classes
    split
    case isTrue credits => simp [classes, credits.symm]
    case isFalse credits => simp [classes, not_not.mp credits]

theorem Rank.stronger_iff_key_lt (a b : Rank) : a.stronger b = true ↔ b.key < a.key := by
  rw [Rank.stronger_iff, Rank.key, Rank.key, Prod.Lex.toLex_lt_toLex, Prod.Lex.toLex_lt_toLex, OrderDual.toDual_lt_toDual]

theorem Rank.station_eq_of_key_eq {a b : Rank} (h : a.key = b.key) : a.station = b.station := by
  have parts := toLex.injective h
  have lower := toLex.injective (Prod.ext_iff.mp parts).2
  exact BitVec.eq_of_toNat_eq (OrderDual.toDual.injective (Prod.ext_iff.mp lower).2)

/-- Of two stations exactly one is stronger: their keys differ, and the key's order is total. -/
theorem Rank.stronger_eq_not_of_station_ne {a b : Rank} (h : a.station ≠ b.station) : a.stronger b = !b.stronger a := by
  have differ : a.key ≠ b.key := fun same => h (Rank.station_eq_of_key_eq same)
  rw [Bool.eq_not, ne_eq, Bool.eq_iff_iff, Rank.stronger_iff_key_lt, Rank.stronger_iff_key_lt]
  rcases differ.lt_or_gt with weaker | stronger
  · exact fun both => weaker.asymm (both.mpr weaker)
  · exact fun both => stronger.asymm (both.mp stronger)

theorem Rank.stronger_trans {a b c : Rank} (hab : a.stronger b = true) (hbc : b.stronger c = true) : a.stronger c = true := by
  rw [Rank.stronger_iff_key_lt] at *
  exact hbc.trans hab

/-- Settles O48: being stronger is the strict order of the keys. -/
theorem rankDecides : Obligations.RankDecides := by
  refine ⟨fun _ _ => Rank.stronger_eq_not_of_station_ne, fun _ _ _ => Rank.stronger_trans, fun a b => ⟨?cls, ?credit, ?station⟩⟩
  case cls => exact fun lower => (a.stronger_iff b).mpr (.inl lower)
  case credit => exact fun same lower => (a.stronger_iff b).mpr (.inr ⟨congrArg _ same.symm, .inl lower⟩)
  case station =>
    intro sameClass sameCredit
    simp [Rank.stronger_iff, sameClass, sameCredit]

end Sys2Proof.Machine
end

section
/-! O49: separation and the spectral test (R78, R79). -/

namespace Sys2Proof.Machine

open Sys2Proof

variable {xLow xHigh yLow yHigh : Nat}

theorem separation_comm : separation xLow xHigh yLow yHigh = separation yLow yHigh xLow xHigh :=
  max_comm _ _

theorem separation_eq_zero_iff : separation xLow xHigh yLow yHigh = 0 ↔ yLow ≤ xHigh ∧ xLow ≤ yHigh := by
  rw [separation, Nat.max_eq_zero_iff, Nat.sub_eq_zero_iff_le, Nat.sub_eq_zero_iff_le]

theorem separation_of_below (hx : xLow ≤ xHigh) (hy : yLow ≤ yHigh) (h : xHigh < yLow) :
    separation xLow xHigh yLow yHigh = yLow - xHigh := by
  have notAbove : xLow - yHigh = 0 := Nat.sub_eq_zero_of_le (by omega)
  rw [separation, notAbove, Nat.max_zero]

/-- Two spans share a frequency exactly when neither lies wholly below the other; the higher of the two lows is then shared. -/
theorem shares_frequency_iff (hx : xLow ≤ xHigh) (hy : yLow ≤ yHigh) :
    (∃ f, xLow ≤ f ∧ f ≤ xHigh ∧ yLow ≤ f ∧ f ≤ yHigh) ↔ yLow ≤ xHigh ∧ xLow ≤ yHigh := by
  constructor
  · rintro ⟨f, fromX, toX, fromY, toY⟩
    exact ⟨fromY.trans toX, fromX.trans toY⟩
  · rintro ⟨yx, xy⟩
    exact ⟨max xLow yLow, le_max_left .., max_le hx yx, le_max_right .., max_le xy hy⟩

theorem Direction.transmits_iff (d : Direction) : d.transmits = true ↔ d ≠ .rx := by
  cases d <;> decide

theorem Direction.receives_iff (d : Direction) : d.receives = true ↔ d ≠ .tx := by
  cases d <;> decide

/-- The three conditions of R79: x suffers from y, y suffers from x, both transmit. -/
theorem spectralConflict_iff (p : Profile) (x : Activity) (y : ClaimEntry) :
    spectralConflict p x y = true ↔
      (x.dir.receives = true ∧ y.dir.transmits = true ∧ separation x.low x.high y.low y.high < p.vict.get y.power) ∨
      (x.dir.transmits = true ∧ y.dir.receives = true ∧ separation x.low x.high y.low y.high < p.aggr.get x.power) ∨
      (x.dir.transmits = true ∧ y.dir.transmits = true ∧ separation x.low x.high y.low y.high < p.same) := by
  simp only [spectralConflict, Bool.or_eq_true, Bool.and_eq_true, decide_eq_true_eq, and_assoc, or_assoc]

/-- Settles O49: the spans by the order of their ends, the test by its three conditions at each pairing of directions. -/
theorem spectralTest : Obligations.SpectralTest := by
  refine ⟨fun xLow xHigh yLow yHigh hx hy => ?spans, fun p x y => ?test⟩
  case spans =>
    exact ⟨separation_eq_zero_iff.trans (shares_frequency_iff hx hy).symm, separation_comm, separation_of_below hx hy⟩
  case test =>
    have conditions := spectralConflict_iff p x y
    simp only [Direction.receives_iff, Direction.transmits_iff] at conditions
    -- At each pairing the two directions decide which of the three conditions can hold.
    refine ⟨?_, ?_, ?_, ?_, ?_, ?_, ?_⟩
    all_goals
      intro hx hy
      simpa [hx, hy] using conditions

end Sys2Proof.Machine
end

section
/-! O30: the blocked pieces (R99). -/

namespace Sys2Proof.Machine

open Sys2Proof

/-- Settles O30: merging keeps the union, and begins a new piece only after a gap. -/
theorem blockedPiecesUnion : Obligations.BlockedPiecesUnion := by
  intro guarded nonempty
  have separate : Separate (blockedPieces guarded) := blockedPieces_separate nonempty
  exact ⟨covers_blockedPieces guarded, separate.nonempty, separate.apart⟩

end Sys2Proof.Machine
end

section
/-! SUPPORT. The law of the hold flag, kept by each shared operation that raises or clears flags (R187). -/

namespace Sys2Proof.Machine

open Sys2Proof

variable {s t : State}

/-! ## Flags and notices -/

/-- The law rests on the flags, the hold mask and the hold flag. -/
theorem holdLaw_congr (hf : t.au.flags = s.au.flags := by simp) (hm : t.au.holdMask = s.au.holdMask := by simp)
    (hh : t.au.hold = s.au.hold := by simp) (h : s.HoldLaw) : t.HoldLaw := by
  rw [State.HoldLaw, AlarmUnit.holdRule] at h ⊢
  rw [hf, hm, hh, h]

/-- Worked out again, the hold flag is the one its rule gives. -/
theorem workOutHold_holdLaw : s.workOutHold.HoldLaw := rfl

theorem clearAlarms_holdLaw (set : FlagSet) : (s.clearAlarms set).HoldLaw := workOutHold_holdLaw

theorem raiseAlarm_holdLaw (a : Alarm) (h : s.HoldLaw) : (s.raiseAlarm a).HoldLaw := by
  unfold State.raiseAlarm
  split
  · exact h
  · exact workOutHold_holdLaw

/-- A count that is increased before its flag is raised is no part of the law. -/
theorem raiseAlarm_counted_holdLaw {f : AlarmUnit → AlarmUnit} (a : Alarm) (h : s.HoldLaw) (hf : (f s.au).flags = s.au.flags := by rfl)
    (hm : (f s.au).holdMask = s.au.holdMask := by rfl) (hh : (f s.au).hold = s.au.hold := by rfl) : ((s.onAu f).raiseAlarm a).HoldLaw :=
  raiseAlarm_holdLaw a (holdLaw_congr hf hm hh h)

theorem countOverrun_holdLaw (h : s.HoldLaw) : s.countOverrun.HoldLaw := raiseAlarm_counted_holdLaw .grantOverrun h

theorem countLateOverlap_holdLaw (h : s.HoldLaw) : s.countLateOverlap.HoldLaw := raiseAlarm_counted_holdLaw .lateOverlap h

theorem countClash_holdLaw (h : s.HoldLaw) : s.countClash.HoldLaw := raiseAlarm_counted_holdLaw .stationClash h

theorem offerNotice_holdLaw (n : Notice) (h : s.HoldLaw) : (s.offerNotice n).HoldLaw := by
  unfold State.offerNotice
  split
  · exact holdLaw_congr (h := h)
  · exact raiseAlarm_counted_holdLaw .noticeLoss h

theorem offers_holdLaw (ns : List Notice) (h : s.HoldLaw) : (ns.foldl State.offerNotice s).HoldLaw := by
  induction ns generalizing s with
  | nil => exact h
  | cons n ns ih => exact ih (offerNotice_holdLaw n h)

theorem riseCsn_holdLaw (whole : Nat) (h : s.HoldLaw) : (s.riseCsn whole).HoldLaw := by
  have hau := riseCsn_au whole s
  exact holdLaw_congr (by rw [hau]) (by rw [hau]) (by rw [hau]) h

/-- What follows an event may count an overrun, and leaves AU elsewhere (R142). -/
theorem settle_holdLaw (h : s.HoldLaw) : s.settle.HoldLaw := by
  by_cases hc : s.endsCounted
  · have hau := ((settle_follows s).counted hc).1
    exact holdLaw_congr (by rw [hau]) (by rw [hau]) (by rw [hau]) (countOverrun_holdLaw h)
  · have hau := ((settle_follows s).uncounted hc).1
    exact holdLaw_congr (by rw [hau]) (by rw [hau]) (by rw [hau]) h

/-! ## Occurrences -/

/-- A change of one entry is told by a notice. -/
theorem updateEntry_told_holdLaw (tag : Tag) (f : Entry → Entry) (n : Notice) (h : s.HoldLaw) :
    ((s.updateEntry tag f).offerNotice n).HoldLaw := offerNotice_holdLaw n (holdLaw_congr (h := h))

theorem occurrenceEnds_holdLaw (tag : Tag) (h : s.HoldLaw) : (s.occurrenceEnds tag).HoldLaw := by
  unfold State.occurrenceEnds
  split
  · exact h
  · split
    · exact offerNotice_holdLaw (s := s.removeEntry tag) _ (holdLaw_congr (h := h))
    · exact holdLaw_congr (h := h)

theorem commit_holdLaw (e : Entry) (h : s.HoldLaw) : (s.commit e).HoldLaw := by
  unfold State.commit
  cases s.decide e with
  | grant | clip => exact updateEntry_told_holdLaw _ _ _ h
  | skipStrongerPeer | skipJoining => exact occurrenceEnds_holdLaw _ (updateEntry_told_holdLaw _ _ _ h)

theorem commitLinks_holdLaw (tag : Tag) (n : Nat) (h : s.HoldLaw) : (State.commitLinks tag n s).HoldLaw := by
  induction n generalizing s with
  | zero => exact h
  | succ n ih =>
    unfold State.commitLinks
    split
    · exact h
    · split
      · exact ih (commit_holdLaw _ h)
      · exact h

theorem commitWhileDue_holdLaw (tag : Tag) (h : s.HoldLaw) : (s.commitWhileDue tag).HoldLaw := by
  unfold State.commitWhileDue
  split
  · exact h
  · exact commitLinks_holdLaw _ _ h

theorem endOccurrence_holdLaw (tag : Tag) (h : s.HoldLaw) : (s.endOccurrence tag).HoldLaw :=
  commitWhileDue_holdLaw tag (occurrenceEnds_holdLaw tag h)

theorem lateCommitted_holdLaw (e : Entry) (p : Placement) (a : Int) (h : s.HoldLaw) : (s.lateCommitted e p a).HoldLaw := by
  unfold State.lateCommitted
  dsimp only
  split
  · exact updateEntry_told_holdLaw _ _ _ h
  · exact endOccurrence_holdLaw _ (updateEntry_told_holdLaw _ _ _ h)

theorem lateActive_holdLaw (e : Entry) (p : Placement) (a : Int) (h : s.HoldLaw) : (s.lateActive e p a).HoldLaw := by
  unfold State.lateActive
  dsimp only
  split
  · split
    · exact endOccurrence_holdLaw _ (updateEntry_told_holdLaw _ _ _ h)
    · exact updateEntry_told_holdLaw _ _ _ h
  · exact countLateOverlap_holdLaw (holdLaw_congr (h := h))

theorem lateTestOne_holdLaw (c : ClaimEntry) (tag : Tag) (h : s.HoldLaw) : (State.lateTestOne c s tag).HoldLaw := by
  unfold State.lateTestOne
  split
  · exact h
  · split
    · exact h
    · split
      · exact h
      · split
        · exact lateCommitted_holdLaw _ _ _ h
        · exact lateActive_holdLaw _ _ _ h
        all_goals exact h

theorem lateTest_holdLaw (c : ClaimEntry) (h : s.HoldLaw) : (s.lateTest c).HoldLaw := by
  unfold State.lateTest
  generalize s.bookOrder.map Entry.tag = tags
  induction tags generalizing s with
  | nil => exact h
  | cons tag tags ih => exact ih (lateTestOne_holdLaw c tag h)

theorem enterBook_holdLaw (q : Request) (clamped : List Nat) (h : s.HoldLaw) : (s.enterBook q clamped).HoldLaw :=
  commitWhileDue_holdLaw q.tag (holdLaw_congr (h := h))

theorem cancelEntry_holdLaw (e : Entry) (h : s.HoldLaw) : (s.cancelEntry e).HoldLaw := by
  have told : (s.offerNotice (e.reqEnd .cancelled)).HoldLaw := offerNotice_holdLaw _ h
  unfold State.cancelEntry
  split <;> exact holdLaw_congr (h := told)

/-! ## Frames -/

theorem putClaim_holdLaw (c : ClaimEntry) (h : s.HoldLaw) : (s.putClaim c).HoldLaw := by
  have evicted : (s.evict c.station).HoldLaw := by
    unfold State.evict
    split
    · exact h
    · split
      · exact raiseAlarm_holdLaw (s := s.removeClaim c.station _) _ (holdLaw_congr (h := h))
      · exact h
  unfold State.putClaim
  split
  · exact h
  · exact evicted

theorem takeClaimFrame_holdLaw (st : Station) (b : ClaimBody) (latch : Time) (h : s.HoldLaw) : (s.takeClaimFrame st b latch).HoldLaw := by
  unfold State.takeClaimFrame
  split
  · exact h
  · rename_i c _
    exact holdLaw_congr (s := (s.putClaim (s.withDeadlines c)).lateTest (s.withDeadlines c))
      (h := lateTest_holdLaw _ (putClaim_holdLaw _ h))

theorem viewCheck_holdLaw (st : Station) (b : BeaconBody) (h : s.HoldLaw) : (s.viewCheck st b).HoldLaw := by
  unfold State.viewCheck
  repeat' split
  · exact h
  · exact h
  · exact h
  · exact raiseAlarm_holdLaw _ h

theorem takeBeacon_holdLaw (st : Station) (b : BeaconBody) (latch : Time) (h : s.HoldLaw) : (s.takeBeacon st b latch).HoldLaw := by
  have sampled : ((((s.hear st latch fun _ => beaconEpoch b).restartCheck st b).updatePeer st fun r => r.withFields b).offsetStep
    st b latch).HoldLaw := holdLaw_congr (h := h)
  exact holdLaw_congr (s := State.viewCheck _ st b) rfl rfl rfl (viewCheck_holdLaw st b sampled)

theorem countGood_holdLaw (h : s.HoldLaw) : s.countGood.HoldLaw := by
  unfold State.countGood
  split
  · exact h
  · exact clearAlarms_holdLaw _

theorem countBad_holdLaw (h : s.HoldLaw) : s.countBad.HoldLaw := by
  unfold State.countBad
  dsimp only
  split
  · exact raiseAlarm_holdLaw _ h
  · exact h

/-! ## The part as a whole -/

theorem switchProfile_holdLaw (h : s.HoldLaw) : s.switchProfile.HoldLaw := by
  unfold State.switchProfile
  split
  · exact h
  · exact offerNotice_holdLaw _ (holdLaw_congr (h := h))

theorem takeBoundary_holdLaw (h : s.HoldLaw) : s.takeBoundary.HoldLaw := by
  have asked : s.closeEpoch.askBeacon.repeatClaims.HoldLaw := holdLaw_congr (s := s) (by simp [State.closeEpoch])
    (by simp [State.closeEpoch]) (by simp [State.closeEpoch]) h
  exact switchProfile_holdLaw asked

theorem lineClear_holdLaw (h : s.HoldLaw) : s.lineClear.HoldLaw := by
  unfold State.lineClear
  dsimp only
  have told : ∀ (u : State) (n : Notice), u.au = s.au → (u.offerNotice n).HoldLaw := fun u n hu =>
    offerNotice_holdLaw n (holdLaw_congr (by rw [hu]) (by rw [hu]) (by rw [hu]) h)
  have awaited : ∀ (u : State) (f : LineController → LineController), u.HoldLaw → (u.onLc f).HoldLaw := fun _ _ hu => hu
  split
  · exact awaited _ _ (told _ _ (by simp))
  · exact told _ _ (by simp)

theorem enterHalted_holdLaw (h : s.HoldLaw) : s.enterHalted.HoldLaw := by
  have lost : s.clockLost.HoldLaw := raiseAlarm_holdLaw (s := s.onTb Timebase.halt) .clockLost h
  have hau := (enterHalted_offers (s := s)).1
  exact holdLaw_congr (by rw [hau]) (by rw [hau]) (by rw [hau]) (offers_holdLaw _ lost)

theorem acceptSetup_holdLaw (act rq : Bool) (f : SetupFields) : (s.acceptSetup act rq f).HoldLaw := by
  simp [State.HoldLaw, AlarmUnit.holdRule]

end Sys2Proof.Machine
end

section
/-! O54: every command keeps the laws of GNT, of the hold flag and of the fast grant record. -/

namespace Sys2Proof.Machine

open Sys2Proof

variable {s t u : State}

/-! ## The three laws -/

/-- The law of the fast grant record rests on the RQ filter and the record. -/
theorem fastLaw_congr (hr : t.gd.rq.running = s.gd.rq.running := by simp) (hl : t.gd.rq.level = s.gd.rq.level := by simp)
    (hf : t.gd.fast = s.gd.fast := by simp) (h : s.FastLaw) : t.FastLaw := by
  rw [State.FastLaw] at h ⊢
  rw [hr, hl, hf]
  exact h

/-- While the RQ filter runs, the record is FAST IDLE exactly when its level is low (R125). -/
theorem fastLaw_running (hr : s.gd.rq.running = true) : s.FastLaw ↔ (s.gd.fast = .idle ↔ s.gd.rq.level = false) := by
  rw [State.FastLaw, if_pos hr]

/-- A stopped RQ filter has no fast grant (R125). -/
theorem fastLaw_stopped (hr : s.gd.rq.running = false) : s.FastLaw ↔ s.gd.fast = .idle := by
  rw [State.FastLaw, hr, if_neg Bool.false_ne_true]

/-- While RSTn is high, GNT stands at the level of its law (R117). -/
theorem gntLaw_of_high (hr : s.pins.rstLow = false) : s.GntLaw ↔ s.gd.gnt = s.gntLevel := by
  rw [State.GntLaw, hr, if_neg Bool.false_ne_true]

/-- The level of GNT rests on being joined, the open windows, the hold flag and GD (R117). -/
theorem gntLevel_eq (hj : t.joined = s.joined) (ho : t.openCount = s.openCount) (ha : t.au.hold = s.au.hold) (hg : t.gd = s.gd) :
    t.gntLevel = s.gntLevel := by
  rw [State.gntLevel, State.gntLevel, hj, ho, ha, hg]

/-- What an event does before GNT is worked out: RSTn stands, and the laws of the hold flag and of the fast grant record are kept. -/
structure State.KeepsFlags (s t : State) : Prop where
  rstLow : t.pins.rstLow = s.pins.rstLow
  hold : s.HoldLaw → t.HoldLaw
  fast : s.FastLaw → t.FastLaw

/-- What a command keeps: the three laws, that of GNT over a book with distinct tags. -/
structure State.KeepsGrant (s t : State) : Prop where
  gnt : s.BookLaw → s.GntLaw → t.GntLaw
  hold : s.HoldLaw → t.HoldLaw
  fast : s.FastLaw → t.FastLaw

namespace State.KeepsFlags

theorem refl : s.KeepsFlags s := ⟨rfl, id, id⟩

theorem trans (h : s.KeepsFlags t) (k : t.KeepsFlags u) : s.KeepsFlags u :=
  ⟨k.rstLow.trans h.rstLow, k.hold ∘ h.hold, k.fast ∘ h.fast⟩

/-- A change that leaves GD. -/
theorem of_hold (hold : s.HoldLaw → t.HoldLaw) (hg : t.gd = s.gd := by simp) (hr : t.pins.rstLow = s.pins.rstLow := by simp) :
    s.KeepsFlags t := ⟨hr, hold, fastLaw_congr (by rw [hg]) (by rw [hg]) (by rw [hg])⟩

/-- A change that leaves AU. -/
theorem of_fast (fast : s.FastLaw → t.FastLaw) (ha : t.au = s.au := by simp) (hr : t.pins.rstLow = s.pins.rstLow := by simp) :
    s.KeepsFlags t := ⟨hr, holdLaw_congr (by rw [ha]) (by rw [ha]) (by rw [ha]), fast⟩

/-- A change that leaves AU and GD. -/
theorem of_blocks (ha : t.au = s.au := by simp) (hg : t.gd = s.gd := by simp) (hr : t.pins.rstLow = s.pins.rstLow := by simp) :
    s.KeepsFlags t := of_hold (holdLaw_congr (by rw [ha]) (by rw [ha]) (by rw [ha])) hg hr

/-- After what follows an event, GNT stands at the level of its law, whatever it was before (R117). -/
theorem settle (k : s.KeepsFlags t) (hr : s.pins.rstLow = false) : s.KeepsGrant t.settle where
  gnt _ _ := by
    rw [gntLaw_of_high (by simp [k.rstLow, hr]), (settle_follows t).gd]
  hold h := settle_holdLaw (k.hold h)
  fast h := by
    have hg := (settle_follows t).gd
    exact fastLaw_congr (by rw [hg]) (by rw [hg]) (by rw [hg]) (k.fast h)

end State.KeepsFlags

namespace State.KeepsGrant

theorem refl : s.KeepsGrant s := ⟨fun _ => id, id, id⟩

theorem trans (h : s.KeepsGrant t) (hb : s.BookLaw → t.BookLaw) (k : t.KeepsGrant u) : s.KeepsGrant u :=
  ⟨fun b g => k.gnt (hb b) (h.gnt b g), k.hold ∘ h.hold, k.fast ∘ h.fast⟩

/-- An event that nothing follows leaves what GNT rests on. -/
theorem of_still (ho : s.BookLaw → t.openCount = s.openCount) (hj : t.joined = s.joined) (hp : t.pins = s.pins := by simp)
    (hg : t.gd = s.gd := by simp) (hf : t.au.flags = s.au.flags := by simp) (hm : t.au.holdMask = s.au.holdMask := by simp)
    (hh : t.au.hold = s.au.hold := by simp) : s.KeepsGrant t where
  gnt b h := by
    rw [State.GntLaw] at h ⊢
    rw [hp, hg, gntLevel_eq hj (ho b) hh hg]
    exact h
  hold := holdLaw_congr hf hm hh
  fast := fastLaw_congr (by rw [hg]) (by rw [hg]) (by rw [hg])

/-- A change of other blocks. -/
theorem of_same (hb : t.book = s.book := by simp) (hl : t.halted = s.halted := by simp) (he : t.pe = s.pe := by simp)
    (hp : t.pins = s.pins := by simp) (hg : t.gd = s.gd := by simp) (ha : t.au = s.au := by simp) : s.KeepsGrant t :=
  of_still (fun _ => by rw [State.openCount, State.openCount, hb]) (joined_congr hl he) hp hg (by rw [ha]) (by rw [ha]) (by rw [ha])

end State.KeepsGrant

/-! ## The events that nothing follows -/

/-- A change of the entries that leaves their states opens and closes no window. -/
theorem openCount_map {f : Entry → Entry} (hf : ∀ x : Entry, (f x).state = x.state) (hb : t.book = s.book.map f) :
    t.openCount = s.openCount := by
  rw [State.openCount, State.openCount, hb, List.countP_map]
  congr 1
  funext x
  simp [hf]

/-- A report hands back held claims at the most, and opens and closes no window (R49). -/
theorem reportBeacon_openCount (latch : Time) (fresh : Bool) : (s.reportBeacon latch fresh).openCount = s.openCount := by
  unfold State.reportBeacon
  dsimp only
  split
  · refine openCount_map (f := fun e => if e.standing then { e with held := false } else e) (fun x => ?_) ?_
    · split <;> rfl
    · simp [State.releaseHeldClaims]
  · rfl

/-- With distinct tags, the entry that leaves at the start mark of its WITHDRAW is RETIRING, and its window is closed (R33). -/
theorem endRetirement_openCount (tag : Tag) (hb : s.BookLaw) : (s.endRetirement tag).openCount = s.openCount := by
  by_cases leaves : ∃ e, s.findEntry tag = some e ∧ e.state = .retiring
  · obtain ⟨e, hf, retiring⟩ := leaves
    rw [endRetirement_leaves hf retiring]
    simp only [State.openCount, List.countP_filter]
    refine List.countP_congr fun x hx => ?_
    have closed : x.state = .active → x.tag ≠ tag := fun hactive ht => by
      have hxe := findEntry_of_mem hb hx
      rw [ht, hf, Option.some.injEq] at hxe
      rw [← hxe, retiring] at hactive
      cases hactive
    simpa using closed
  · rw [endRetirement_stands]
    cases hf : s.findEntry tag with
    | none => exact .inl rfl
    | some e => exact .inr ⟨e, rfl, fun hr => leaves ⟨e, hf, hr⟩⟩

theorem reportStartMark_openCount (hb : s.BookLaw) : s.reportStartMark.openCount = s.openCount := by
  rcases reportStartMark_cases (s := s) with e | ⟨c, own, body, -, e⟩ <;> rw [e]
  cases body with
  | beacon b => exact reportBeacon_openCount _ _
  | claim _ b =>
    refine openCount_map (f := fun e => if e.tag == b.tag then e.announcedAt s.tb.epochCount else e) (fun x => ?_) rfl
    split <;> rfl
  | withdraw tag => exact endRetirement_openCount tag hb

theorem reportStartMark_keepsGrant : s.KeepsGrant s.reportStartMark :=
  .of_still reportStartMark_openCount reportStartMark_keepsMeter.joined_eq

/-- The end of a stretch clears a condition at the most, which is no part of the laws (R166). -/
theorem endStretch_keepsGrant : s.KeepsGrant s.endStretch := by
  unfold State.endStretch
  split
  · exact .of_still (fun _ => rfl) rfl
  · exact .of_same

/-- The fall of CSn changes the new-raise mark of AU at the most (R186). -/
theorem fallCsn_keepsGrant : s.KeepsGrant s.fallCsn := by
  have hau : s.fallCsn.au = { s.au with newRaise := s.fallCsn.au.newRaise } := by
    unfold State.fallCsn
    split
    · rfl
    · split <;> rfl
  exact .of_still (fun _ => by simp [State.openCount]) (joined_congr (by simp) (by simp)) (by simp) (by simp) (by rw [hau]) (by rw [hau])
    (by rw [hau])

/-! ## The events of the reset pin -/

theorem assertReset_keepsGrant (fb : Bool) : s.KeepsGrant (s.assertReset fb) :=
  ⟨fun _ _ => rfl, id, id⟩

theorem releaseReset_keepsGrant (sa : Station) : s.KeepsGrant (s.releaseReset sa) :=
  ⟨fun _ _ => rfl, fun _ => holdLaw_congr (h := afterReset_holdLaw (sa := sa) (fb := s.pins.fb)) rfl rfl rfl,
    fun _ => (fastLaw_stopped rfl).mpr rfl⟩

theorem changeFb_keepsGrant (fb : Bool) (hr : s.pins.rstLow = true) : s.KeepsGrant (s.changeFb fb) :=
  ⟨fun _ _ => (if_pos hr).symm, id, id⟩

/-! ## The fast grant record -/

theorem advance_keepsGrant (rc : Nat) (act rq : Bool) (line : List LineEvent) (hr : s.pins.rstLow = false) :
    s.KeepsGrant (s.advance rc act rq line) := by
  refine State.KeepsFlags.settle (.of_fast (fastLaw_congr ?_ ?_ ?_)) hr
  · simp [Filter.sample_running]
  · rw [State.onGd_gd, Filter.sample_eq]
    split <;> simp
  · simp

/-- A fast request is decided: the record is no longer FAST IDLE (R125, R126, R127). -/
theorem decideFast_ne_idle (pri : BitVec 2) : s.decideFast pri ≠ .idle := by
  unfold State.decideFast
  repeat' split
  all_goals nofun

theorem takeRqRise_keepsGrant (pri : BitVec 2) (hr : s.pins.rstLow = false) (hd : s.gd.rq.due s.params.debounce = true)
    (hl : s.gd.rq.level = false) : s.KeepsGrant (s.takeRqRise pri) := by
  refine State.KeepsFlags.settle (.of_fast (fun _ => ?_)) hr
  have running : s.gd.rq.running = true := (Bool.and_eq_true _ _).mp hd |>.1
  refine (fastLaw_running ?_).mpr ?_
  · exact running
  · simp [Filter.take, hl, decideFast_ne_idle]

theorem takeRqFall_keepsGrant (hr : s.pins.rstLow = false) (hd : s.gd.rq.due s.params.debounce = true) (hl : s.gd.rq.level = true) :
    s.KeepsGrant s.takeRqFall := by
  refine State.KeepsFlags.settle (.of_fast (fun _ => ?_)) hr
  have running : s.gd.rq.running = true := (Bool.and_eq_true _ _).mp hd |>.1
  refine (fastLaw_running ?_).mpr ?_
  · exact running
  · simp [Filter.take, hl]

/-- A grant in force ends SPENT: the filtered level of RQ is still high (R125, R128). -/
theorem takeFastEnd_keepsGrant (hr : s.pins.rstLow = false) (hd : s.fastEndDue = true) : s.KeepsGrant s.takeFastEnd := by
  refine State.KeepsFlags.settle (.of_fast (fun h => ?_)) hr
  have granted : s.gd.fast ≠ .idle := fun hi => by simp [State.fastEndDue, hi] at hd
  cases running : s.gd.rq.running with
  | false => exact absurd ((fastLaw_stopped running).mp h) granted
  | true =>
    refine (fastLaw_running ?_).mpr ?_
    · exact running
    · simpa [granted] using (fastLaw_running running).mp h

/-! ## The part as a whole -/

theorem enterHalted_keepsFlags : s.KeepsFlags s.enterHalted := by
  refine ⟨by simp, enterHalted_holdLaw, fun _ => (fastLaw_stopped ?_).mpr ?_⟩ <;> simp [State.enterHalted, GrantDriver.halt]

/-- Of the verdicts on a window, no reference alone changes GD, and a suspect clock alone raises a flag besides (R10). -/
theorem judgeWindow_keepsFlags (v : Verdict) : s.KeepsFlags (s.judgeWindow v) := by
  have suspect : s.KeepsFlags s.enterSuspect :=
    .of_hold (fun h => raiseAlarm_holdLaw _ h) (by simp [State.enterSuspect]) (by simp [State.enterSuspect])
  have leave : s.KeepsFlags s.leaveSuspect := .of_hold id rfl rfl
  unfold State.judgeWindow
  split
  · exact enterHalted_keepsFlags
  · split
    · exact .of_blocks
    · exact leave
  · exact suspect
  · exact .of_blocks
  all_goals exact .refl

/-- At SETUP acceptance the RQ filter takes the level of its pin, and a pin already high makes the record SPENT (R122, R131). -/
theorem acceptSetup_keepsFlags (act rq : Bool) (f : SetupFields) : s.KeepsFlags (s.acceptSetup act rq f) := by
  refine ⟨by simp, fun _ => acceptSetup_holdLaw act rq f, fun _ => ?_⟩
  rw [fastLaw_running (by simp [GrantDriver.setUp, Filter.startAt])]
  cases rq <;> simp [GrantDriver.setUp, Filter.startAt]

/-! ## Frames and records -/

theorem takeDriveFault_keepsGrant (hr : s.pins.rstLow = false) : s.KeepsGrant s.takeDriveFault := by
  have stopped : s.KeepsFlags (if s.lc.contending.isSome then s.stopContending else s.abandonFrame) := by
    split <;> exact .of_blocks
  unfold State.takeDriveFault
  exact (stopped.trans (.of_hold fun h => raiseAlarm_holdLaw _ (holdLaw_congr (h := h)))).settle hr

theorem takeOwnNumber_keepsGrant (hr : s.pins.rstLow = false) : s.KeepsGrant s.takeOwnNumber :=
  State.KeepsFlags.settle (.of_hold fun h => holdLaw_congr (h := countGood_holdLaw (countClash_holdLaw h))) hr

theorem takeFrame_keepsGrant {st : Station} {handle : Time → State} (hr : s.pins.rstLow = false)
    (handled : ∀ latch, s.KeepsFlags (handle latch)) : s.KeepsGrant (s.takeFrame st handle) := by
  rcases takeFrame_cases (s := s) st handle with e | e | ⟨latch, e⟩ <;> rw [e]
  · exact .refl
  · exact takeOwnNumber_keepsGrant hr
  · exact ((handled latch).trans (.of_hold fun h => holdLaw_congr (h := countGood_holdLaw h))).settle hr

theorem takeRecord_keepsGrant {whole : Nat} {handle : State → State} (hr : s.pins.rstLow = false)
    (handled : ∀ b : State, b.KeepsFlags (handle b)) : s.KeepsGrant (s.takeRecord whole handle) := by
  have rise : s.KeepsFlags (s.riseCsn whole) := .of_hold (riseCsn_holdLaw whole)
  rcases takeRecord_cases (s := s) whole handle with e | e <;> rw [e]
  · exact (rise.trans (handled _)).settle hr
  · exact rise.settle hr

/-- A REPLY and an offer of a report. -/
theorem accept_offer_keepsFlags (kind : Byte) (n : Notice) : s.KeepsFlags ((s.accept kind []).offerNotice n) :=
  .of_hold fun h => offerNotice_holdLaw n (holdLaw_congr (h := h))

theorem accept_offer_nextFree_keepsFlags (kind : Byte) (n : Notice) : s.KeepsFlags ((s.accept kind []).offerNotice n).nextFree :=
  (accept_offer_keepsFlags kind n).trans .of_blocks

/-! ## Every command -/

/-- While RSTn is low, the three laws stand: its release gives every block its values, and GNT follows FB (R116). -/
theorem exec_keepsGrant_of_low {c : Instr} (hr : s.pins.rstLow = true) (h : exec c s = .next t) : s.KeepsGrant t := by
  by_cases release : ∃ sa, c = .resetRelease sa
  · obtain ⟨sa, rfl⟩ := release
    exact occurs_keeps .refl (fun _ => releaseReset_keepsGrant sa) h
  · by_cases change : ∃ fb, c = .fbChangeDuringReset fb
    · obtain ⟨fb, rfl⟩ := change
      exact occurs_keeps .refl (fun _ => changeFb_keepsGrant fb hr) h
    · rw [exec_of_rstLow hr (fun sa e => release ⟨sa, e⟩) (fun fb e => change ⟨fb, e⟩)] at h
      cases h
      exact .refl

theorem exec_keepsGrant_of_high {c : Instr} (hr : s.pins.rstLow = false) (h : exec c s = .next t) : s.KeepsGrant t := by
  have comes : ∀ {enabled effect}, occurs enabled effect s = .next t → (enabled = true → s.KeepsGrant (effect s)) → s.KeepsGrant t :=
    fun h comes => occurs_keeps .refl comes h
  have settles : ∀ {u : State}, (s.HoldLaw → u.HoldLaw) → (hg : u.gd = s.gd := by simp) → (hp : u.pins.rstLow = s.pins.rstLow := by simp) →
    s.KeepsGrant u.settle := fun hold hg hp => State.KeepsFlags.settle (.of_hold hold hg hp) hr
  cases c with
  | resetAssert fb => exact comes h fun _ => assertReset_keepsGrant fb
  | resetRelease sa => exact comes h fun _ => releaseReset_keepsGrant sa
  | fbChangeDuringReset fb => exact comes h fun hl => changeFb_keepsGrant fb hl
  | microsecondAdvance => exact comes h fun _ => advance_keepsGrant _ _ _ _ hr
  | monitorWindowClose edges =>
    have closed : s.KeepsFlags (s.onTb (Timebase.closeWindow edges)) := .of_blocks
    exact comes h fun _ => (closed.trans (judgeWindow_keepsFlags _)).settle hr
  | epochBoundary =>
    unfold exec execEpochBoundary at h
    exact comes h fun _ => settles takeBoundary_holdLaw
  | commitPoint =>
    refine comes h fun _ => ?_
    rcases takeCommitPoint_cases (s := s) with e | ⟨_, -, e⟩ <;> rw [e]
    · exact .refl
    · exact settles (commitWhileDue_holdLaw _)
  | placedStart tag =>
    refine comes h fun _ => ?_
    rcases takePlacedStart_cases (s := s) tag with e | ⟨_, -, e⟩ <;> rw [e]
    · exact .refl
    · exact settles holdLaw_congr
  | placedEnd tag =>
    refine comes h fun _ => ?_
    rcases takePlacedEnd_cases (s := s) tag with e | ⟨_, -, e⟩ <;> rw [e]
    · exact .refl
    · exact settles (endOccurrence_holdLaw _)
  | actLevelTaken | joiningEnd => exact comes h fun _ => settles id rfl rfl
  | countDeadline => exact comes h fun _ => settles fun h => countOverrun_holdLaw (holdLaw_congr (h := h))
  | rqRise pri =>
    refine comes h fun he => ?_
    simp only [Bool.and_eq_true, Bool.not_eq_true'] at he
    obtain ⟨⟨-, hd⟩, hl⟩ := he
    exact takeRqRise_keepsGrant pri hr hd hl
  | rqFall =>
    refine comes h fun he => ?_
    simp only [Bool.and_eq_true] at he
    obtain ⟨⟨-, hd⟩, hl⟩ := he
    exact takeRqFall_keepsGrant hr hd hl
  | fastEnd => exact comes h fun he => takeFastEnd_keepsGrant hr ((Bool.and_eq_true _ _).mp he).2
  | quietDeadline st =>
    refine comes h fun _ => ?_
    rcases takeQuietDeadline_cases (s := s) st with e | e <;> rw [e]
    · exact .refl
    · exact settles holdLaw_congr
  | lostDeadline st =>
    refine comes h fun _ => ?_
    rcases takeLostDeadline_cases (s := s) st with e | e <;> rw [e]
    · exact .refl
    · exact settles holdLaw_congr
  | leaseDeadline st tag =>
    refine comes h fun _ => ?_
    rcases takeLeaseDeadline_cases (s := s) st tag with e | e <;> rw [e]
    · exact .refl
    · exact .of_same
  | expiryPoint st tag =>
    refine comes h fun _ => ?_
    rcases takeExpiryPoint_cases (s := s) st tag with e | e <;> rw [e]
    · exact .refl
    · exact .of_same
  | acknowledgeDeadline => exact comes h fun _ => settles fun h => raiseAlarm_holdLaw _ (holdLaw_congr (h := h))
  | lineIdle | startMark | arbitrationLost | readbackMismatch => exact comes h fun _ => .of_same
  | clearDriveEnd => exact comes h fun _ => .of_same rfl rfl rfl rfl rfl rfl
  | ownStartMarkReported => exact comes h fun _ => reportStartMark_keepsGrant
  | frameSent =>
    refine comes h fun _ => ?_
    rcases takeFrameSent_cases (s := s) with ⟨-, e⟩ | ⟨_, _, -, e⟩ <;> rw [e]
    · exact .refl
    · exact .of_same
  | driveFault => exact comes h fun _ => takeDriveFault_keepsGrant hr
  | beaconReceived st b =>
    unfold exec execBeaconReceived at h
    exact comes h fun _ => takeFrame_keepsGrant hr fun latch => .of_hold (takeBeacon_holdLaw st b latch)
  | claimReceived st _ b =>
    exact comes h fun _ => takeFrame_keepsGrant hr fun latch => .of_hold fun h => takeClaimFrame_holdLaw st b latch (holdLaw_congr (h := h))
  | withdrawReceived => exact comes h fun _ => takeFrame_keepsGrant hr fun _ => .of_blocks
  | ownNumberFrame => exact comes h fun _ => takeOwnNumber_keepsGrant hr
  | badFrame line =>
    unfold exec execBadFrame at h
    exact comes h fun _ => settles fun h => countBad_holdLaw (s := s.followLine line) h
  | lineClearDetected =>
    unfold exec execLineClearDetected at h
    exact comes h fun _ => settles lineClear_holdLaw
  | lineStuckDetected => exact comes h fun _ => settles fun h => raiseAlarm_counted_holdLaw _ h
  | dominantStretchEnd => exact comes h fun _ => endStretch_keepsGrant
  | csnFall => exact comes h fun _ => fallCsn_keepsGrant
  | transactionEnd whole r =>
    refine comes h fun _ => takeRecord_keepsGrant hr fun b => ?_
    rcases answerPort_cases (s := b) r with e | ⟨_, _, e⟩ <;> rw [e]
    · exact .refl
    · exact .of_blocks
  | setup _ act rq r =>
    refine comes h fun _ => takeRecord_keepsGrant hr fun b => ?_
    rcases handleSetup_cases (s := b) act rq r with ⟨-, _, e⟩ | ⟨-, e⟩ <;> rw [e]
    · exact .of_blocks
    · have told : b.KeepsFlags (b.accept kindSetup (takeSetup r).clamped) := .of_blocks
      exact told.trans (acceptSetup_keepsFlags act rq _)
  | submit _ r =>
    refine comes h fun _ => takeRecord_keepsGrant hr fun b => ?_
    rcases handleSubmit_cases (s := b) r with ⟨_, e⟩ | ⟨-, e⟩ <;> rw [e]
    · exact .of_blocks
    · exact .of_hold (enterBook_holdLaw _ _)
  | cancel _ tag =>
    refine comes h fun _ => takeRecord_keepsGrant hr fun b => ?_
    rcases handleCancel_cases (s := b) tag with ⟨_, e⟩ | ⟨-, x, -, -, e⟩ <;> rw [e]
    · exact .of_blocks
    · exact .of_hold fun h => cancelEntry_holdLaw x (holdLaw_congr (h := h))
  | profileSelect _ code =>
    refine comes h fun _ => takeRecord_keepsGrant hr fun b => ?_
    rcases handleProfileSelect_cases (s := b) code with ⟨_, e⟩ | ⟨-, e⟩ <;> rw [e] <;> exact .of_blocks
  | fastSpan _ r =>
    refine comes h fun _ => takeRecord_keepsGrant hr fun b => ?_
    rcases handleFastSpan_cases (s := b) r with ⟨_, e⟩ | ⟨-, e⟩ <;> rw [e]
    · exact .of_blocks
    · exact .of_fast fastLaw_congr
  | clearLine _ =>
    refine comes h fun _ => takeRecord_keepsGrant hr fun b => ?_
    rcases handleClearLine_cases (s := b) with ⟨_, e⟩ | ⟨-, e⟩ <;> rw [e] <;> exact .of_blocks
  | clearAck _ =>
    refine comes h fun _ => takeRecord_keepsGrant hr fun b => ?_
    rcases handleClearAck_cases (s := b) with e | e | e <;> rw [e]
    · exact .of_blocks
    · exact .of_blocks
    · exact .of_hold fun _ => clearAlarms_holdLaw _
  | alarmClear _ flags =>
    refine comes h fun _ => takeRecord_keepsGrant hr fun b => ?_
    rcases handleAlarmClear_cases (s := b) flags with e | e <;> rw [e]
    · exact .of_blocks
    · exact .of_hold fun _ => clearAlarms_holdLaw _
  | meterRead _ =>
    refine comes h fun _ => takeRecord_keepsGrant hr fun b => ?_
    rcases handleMeterRead_cases (s := b) with ⟨_, e⟩ | ⟨-, e⟩ <;> rw [e]
    · exact .of_blocks
    · exact accept_offer_keepsFlags _ _
  | statusRead _ =>
    exact comes h fun _ => takeRecord_keepsGrant hr fun b => accept_offer_nextFree_keepsFlags _ _
  | timeRead _ =>
    refine comes h fun _ => takeRecord_keepsGrant hr fun b => ?_
    rcases handleTimeRead_cases (s := b) with e | e <;> rw [e]
    · exact .of_blocks
    · exact accept_offer_nextFree_keepsFlags _ _

/-- So does every step: the queue of commands is no part of the laws. -/
theorem step_keepsGrant (h : step s = .next t) : s.KeepsGrant t := by
  unfold step at h
  split at h
  · cases h
    exact .refl
  · rename_i rest _
    have taken : s.KeepsGrant { s with pending := rest } := .of_same rfl rfl rfl rfl rfl rfl
    refine taken.trans id ?_
    cases hr : s.pins.rstLow with
    | false => exact exec_keepsGrant_of_high hr h
    | true => exact exec_keepsGrant_of_low hr h

/-- Settles O54: each law is a part of what every step keeps. -/
theorem grantLawsKept : Obligations.GrantLawsKept :=
  ⟨fun _ _ h hg hb => (step_keepsGrant h).gnt hb hg, fun _ _ h => (step_keepsGrant h).hold, fun _ _ h => (step_keepsGrant h).fast⟩

end Sys2Proof.Machine
end

section
/-! O17: PROFILE_SELECT and FAST_SPAN. -/

namespace Sys2Proof.Machine

open Sys2Proof

variable {s : State}

/-- A record taken in JOINING and RUNNING alone is handled there (R197). -/
theorem whenJoined_of_joined (hj : s.joined = true) (kind : Byte) (tag : Tag) (handle : State → State) :
    s.whenJoined kind tag handle = handle s := by
  rcases whenJoined_cases (s := s) kind tag handle with ⟨-, e⟩ | ⟨hn, -⟩
  · exact e
  · rw [hj] at hn
    cases hn

/-! ## FAST_SPAN -/

/-- The span and power class of a FAST_SPAN, as clamped (R130). -/
theorem takeFastSpan_value (r : FastSpanRecord) : (takeFastSpan r).value =
    ⟨⟨max 2400 (min 8500 r.low.toNat), max 2400 (min 8500 r.high.toNat)⟩, powerOf r.power.toNat⟩ := by
  rw [takeFastSpan, takeClamped_value, takeClamped_value, clampNat_eq_max (by decide), clampNat_eq_max (by decide)]
  rfl

/-- The fields of a FAST_SPAN that its clamps change (R130). -/
theorem takeFastSpan_clamped (r : FastSpanRecord) : (takeFastSpan r).clamped = changedFields
    [(1, (takeFastSpan r).value.span.low ≠ r.low.toNat), (2, (takeFastSpan r).value.span.high ≠ r.high.toNat),
      (3, (takeFastSpan r).value.power.val ≠ r.power.toNat)] := by
  have hpower : (takeFastSpan r).value.power = powerOf r.power.toNat := rfl
  rw [changedFields_cons, changedFields_cons, hpower]
  simp only [powerOf_val_ne_iff, changedFields_single 3, ← List.append_assoc]
  rw [takeFastSpan, takeClamped_clamped, takeClamped_clamped]
  rfl

/-- In JOINING and RUNNING, a span that may be taken replaces the fast span, and its power class the fast power class; any other is
refused (R130). -/
theorem handleFastSpan_joined (r : FastSpanRecord) (hj : s.joined = true) : s.handleFastSpan r =
    if spanTaken (takeFastSpan r).value.span.low (takeFastSpan r).value.span.high then
      (s.accept kindFastSpan (takeFastSpan r).clamped).onGd
        fun g => { g with fastSpan := some (takeFastSpan r).value.span, fastPower := some (takeFastSpan r).value.power }
    else s.refuse kindFastSpan .badSpan 0 := whenJoined_of_joined hj _ _ _

/-! ## PROFILE_SELECT -/

/-- In JOINING and RUNNING, the profile named is selected (R172). -/
theorem handleProfileSelect_joined (code : Byte) (hj : s.joined = true) : s.handleProfileSelect code =
    (s.accept kindProfileSelect (takeProfileCode code).clamped).onPs fun p => p.select (takeProfileCode code).value :=
  whenJoined_of_joined hj _ _ _

/-- The REPLY to a PROFILE_SELECT: field 1 is clamped when the code names neither profile (R172). -/
theorem accept_profileCode (code : Byte) : s.accept kindProfileSelect (takeProfileCode code).clamped =
    s.pushNotice (if code = 0 ∨ code = 1 then .reply 4 .accepted .none 0 [] else .reply 4 .clamped .none 0 [1]) := by
  have hclamped : (takeProfileCode code).clamped = if code = 0 ∨ code = 1 then [] else [1] := by simp [takeProfileCode]
  rw [State.accept, hclamped]
  split <;> rfl

/-- Settles O17: the profile named is selected, and the fast span is replaced or refused. -/
theorem profileAndFastSpan : Obligations.ProfileAndFastSpan := by
  constructor
  case left =>
    intro whole code s b hl hb hf hj named told
    have joined : b.joined = true := by rw [← hb, riseCsn_joined, hj]
    refine rise_settles hl rfl hb hf ?_
    rw [handleProfileSelect_joined code joined, accept_profileCode]
    rfl
  case right =>
    intro whole r power s b hl hb hf hj hpower low high clamped
    have joined : b.joined = true := by rw [← hb, riseCsn_joined, hj]
    have hvalue : (takeFastSpan r).value = ⟨⟨low, high⟩, power⟩ := by
      rw [takeFastSpan_value, Fin.ext ((powerOf_val _).trans hpower.symm)]
    have hclamped : (takeFastSpan r).clamped = clamped := by rw [takeFastSpan_clamped, hvalue]
    obtain ⟨t, ht, follows⟩ := rise_settles (c := .fastSpan whole r) hl rfl hb hf (handleFastSpan_joined r joined)
    rw [hvalue, hclamped] at follows
    refine ⟨t, ht, fun hle hwidth => ?_, fun hbad => ?_⟩
    · rw [if_pos (spanTaken_iff.mpr ⟨hle, hwidth⟩)] at follows
      exact follows
    · have untaken : ¬ spanTaken low high = true := by
        rw [spanTaken_iff]
        omega
      rw [if_neg untaken] at follows
      exact follows

end Sys2Proof.Machine
end

section
/-! O34: RQ_RISE, RQ_FALL and FAST_END. -/

namespace Sys2Proof.Machine

open Sys2Proof

variable {s : State}

/-! ## The fast end -/

/-- The classes PRI1 and PRI0 give are the first four (R14, R123). -/
theorem fastClass_eq : ∀ pri : BitVec 2, fastClass pri = PriorityClass.ofNumber pri.toNat := by decide

/-- The least of a bound and of the starts of some intervals. -/
theorem le_foldl_min_iff {guarded : List Interval} {f e : Int} :
    e ≤ guarded.foldl (fun e p => min e p.1) f ↔ e ≤ f ∧ ∀ g ∈ guarded, e ≤ g.1 := by
  induction guarded generalizing f with
  | nil => simp
  | cons g guarded ih => rw [List.foldl_cons, ih, le_min_iff, List.forall_mem_cons, and_assoc]

/-- The fast end is the earlier of F and the earliest blocking guarded start (R127). -/
theorem fastEndOf_eq {pri : BitVec 2} {e : Int} (hle : e ≤ s.profile.fastMax)
    (hstarts : ∀ g ∈ s.blocking (s.fastActivity pri) (0, s.profile.fastMax), e ≤ g.1)
    (hreached : e = s.profile.fastMax ∨ ∃ g ∈ s.blocking (s.fastActivity pri) (0, s.profile.fastMax), g.1 = e) : s.fastEndOf pri = e := by
  obtain ⟨hmax, hall⟩ := le_foldl_min_iff.mp (le_refl (s.fastEndOf pri))
  refine le_antisymm ?_ (le_foldl_min_iff.mpr ⟨hle, hstarts⟩)
  rcases hreached with rfl | ⟨g, hg, rfl⟩
  · exact hmax
  · exact hall g hg

/-! ## The decision -/

theorem decideFast_untested {pri : BitVec 2} (h : s.profile.fastEnable = false ∨ s.part = .joining) : s.decideFast pri = .spent :=
  if_pos (by simpa using h)

theorem decideFast_tested {pri : BitVec 2} (he : s.profile.fastEnable = true) (hp : s.part ≠ .joining) : s.decideFast pri =
    if (s.profile.fastMin : Int) ≤ s.fastEndOf pri then .inForce s.now (s.timeAt (s.fastEndOf pri)) else .spent :=
  if_neg (by simp [he, hp])

/-! ## The filtered level -/

theorem Filter.take_low {f : Filter} (h : f.level = false) : f.take = { f with level := true, samples := 0 } := by simp [Filter.take, h]

theorem Filter.take_high {f : Filter} (h : f.level = true) : f.take = { f with level := false, samples := 0 } := by simp [Filter.take, h]

/-- A filter that runs has a level due after d + 1 samples of it (R124). -/
theorem Filter.due_iff {f : Filter} {d : Nat} : f.due d = true ↔ f.running = true ∧ d + 1 ≤ f.samples := by simp [Filter.due]

/-- An RQ rise decides the record on the state before it (R127). -/
theorem takeRqRise_eq (pri : BitVec 2) (h : s.gd.rq.level = false) : s.takeRqRise pri = State.settle
    { s with
      pins := { s.pins with pri := pri }
      gd := { s.gd with rq := { s.gd.rq with level := true, samples := 0 }, fast := s.decideFast pri } } := by
  rw [← Filter.take_low h]
  rfl

theorem takeRqFall_eq (h : s.gd.rq.level = true) : s.takeRqFall = State.settle
    { s with gd := { s.gd with rq := { s.gd.rq with level := false, samples := 0 }, fast := .idle } } := by
  rw [← Filter.take_high h]
  rfl

/-- Settles O34: what the rise, the fall and the fast end make of the record. -/
theorem fastRequests : Obligations.FastRequests := by
  refine ⟨?rise, ?fall, ?ends⟩
  case rise =>
    intro pri s hw hrun hsamples hlevel span activity longest blocking made
    have hdue := Filter.due_iff.mpr ⟨hrun, hsamples⟩
    have hactivity : s.fastActivity pri = activity := by rw [State.fastActivity, fastClass_eq]; rfl
    have follows : (made (s.decideFast pri)).Follows (s.takeRqRise pri) := follows_of_settle (takeRqRise_eq pri hlevel)
    refine ⟨_, occurs_of_enabled (by simp [hw, hdue, hlevel]) _ s, fun h => ?_, fun he hp e hle hstarts hreached => ?_⟩
    · rwa [decideFast_untested h] at follows
    · have hend : s.fastEndOf pri = e := fastEndOf_eq hle (by rwa [hactivity]) (by rwa [hactivity])
      rw [decideFast_tested he hp, hend] at follows
      refine ⟨fun h => ?_, fun h => ?_⟩
      · rwa [if_pos h] at follows
      · rwa [if_neg (Int.not_le.mpr h)] at follows
  case fall =>
    intro s hw hrun hsamples hlevel
    have hdue := Filter.due_iff.mpr ⟨hrun, hsamples⟩
    exact ⟨_, occurs_of_enabled (by simp [hw, hdue, hlevel]) _ s, follows_of_settle (takeRqFall_eq hlevel)⟩
  case ends =>
    intro s began fastEnd hw hf hd
    have hdue : s.fastEndDue = true := by simpa [State.fastEndDue, hf, State.due] using hd
    exact ⟨_, occurs_of_enabled (by simp [hw, hdue]) _ s, follows_of_settle rfl⟩

end Sys2Proof.Machine
end

section
/-! O33: ACT_LEVEL_TAKEN and COUNT_DEADLINE. -/

namespace Sys2Proof.Machine

open Sys2Proof

variable {s t : State}

/-! ## The overrun stretch after an event -/

/-- An event after which no stretch ends at its count leaves AU, and with it the hold flag, GNT and the stretch, as they were (R117, R140). -/
theorem State.Follows.inStretch_of_uncounted (h : s.Follows t) (hc : ¬ s.endsCounted) : t.inStretch = s.inStretch := by
  have hact : t.am.act = s.am.act := by
    obtain ⟨_, _, _, ham⟩ := h.am_cases
    rw [ham]
  have hgnt : t.gntLevel = s.gntLevel :=
    gntLevel_congr h.halted h.pe h.book (by rw [(h.uncounted hc).1]) (by rw [h.gd]) (by rw [h.gd])
  rw [State.inStretch, State.inStretch, hact, hgnt]

/-- A COUNTED stretch goes on, or it ends and is not counted again (R141, R142). -/
theorem State.Follows.am_of_counted (h : s.Follows t) (ho : s.am.overrun = .counted) :
    t.am = if s.inStretch then s.am else { s.am with overrun := .clear, stretchStart := none, countDeadline := none } := by
  have hclear : s.am.overrun ≠ .clear := by rw [ho]; nofun
  have huncounted : ¬ s.endsCounted := fun ⟨htiming, _, _⟩ => by rw [ho] at htiming; cases htiming
  cases hs : s.inStretch
  case true => exact h.stretchStands hclear hs
  case false => exact h.stretchEnds hclear hs ((h.inStretch_of_uncounted huncounted).trans hs)

/-! ## The count deadline -/

theorem countDue_of_distance {deadline : Time} (ho : s.am.overrun = .timing) (hd : s.am.countDeadline = some deadline)
    (hdue : s.distance deadline ≤ 0) : s.countDue = true := by
  simpa [State.countDue, State.dueSome, State.due, ho, hd] using hdue

theorem countOverrun_eq : s.countOverrun = State.raiseAlarm
    { s with au := { s.au with overruns := if s.au.overruns = 65535 then 65535 else s.au.overruns + 1 } } .grantOverrun := by
  rw [← saturatingSucc_eq]
  rfl

/-- The stretch is COUNTED before the raise, and what follows the event rests on the hold flag as the raise leaves it (R121, R142). -/
theorem takeCountDeadline_eq : s.takeCountDeadline = State.settle (State.raiseAlarm
    { s with
      am := { s.am with overrun := .counted, countDeadline := none }
      au := { s.au with overruns := if s.au.overruns = 65535 then 65535 else s.au.overruns + 1 } } .grantOverrun) := by
  rw [State.takeCountDeadline, countOverrun_eq]
  rfl

/-- Settles O33: the level is taken, and a stretch counted at its deadline goes on unless the raise asserts GNT. -/
theorem actAndCount : Obligations.ActAndCount := by
  refine ⟨?level, ?deadline⟩
  case level =>
    intro s hw hrun hsamples
    have hdue := Filter.due_iff.mpr ⟨hrun, hsamples⟩
    exact ⟨_, occurs_of_enabled (by rw [hw, hdue, Bool.and_self]) _ s, follows_of_settle rfl⟩
  case deadline =>
    intro s deadline hw ho hd hdue u
    have follows : u.Follows s.takeCountDeadline := follows_of_settle takeCountDeadline_eq
    have raised : u.am = { s.am with overrun := .counted, countDeadline := none } := by simp [u]
    refine ⟨_, occurs_of_enabled (by rw [hw, countDue_of_distance ho hd hdue, Bool.and_self]) _ s, follows, ?_⟩
    rw [follows.am_of_counted (by rw [raised]), raised]
    split <;> rfl

end Sys2Proof.Machine
end

section
/-! SUPPORT. The bits of a line frame: fields written and read, frames as unstuffed bits (R149, R201). -/

namespace Sys2Proof.Machine

open Sys2Proof

/-! ## Fields -/

@[simp] theorem length_bitsOf {w : Nat} (v : BitVec w) : (bitsOf v).length = w := by simp [bitsOf]

theorem getElem_bitsOf {w i : Nat} (v : BitVec w) (h : i < (bitsOf v).length) : (bitsOf v)[i] = v.getMsbD i := by simp [bitsOf]

/-- The two parts of a field stand one after the other, the more significant first (R149). -/
theorem bitsOf_append {m n : Nat} (x : BitVec m) (y : BitVec n) : bitsOf (x ++ y) = bitsOf x ++ bitsOf y := by
  refine List.ext_getElem (by simp) fun i _ _ => ?_
  rw [getElem_bitsOf, BitVec.getMsbD_append, List.getElem_append]
  by_cases h : i < m
  · simp [h, getElem_bitsOf, Nat.not_le.mpr h]
  · simp [h, getElem_bitsOf, Nat.not_lt.mp h]

/-- The last bit read is the least significant. -/
theorem fieldOf_getLsbD {w : Nat} (bits : List Bool) (i : Nat) (h : i < w) :
    (fieldOf w bits).getLsbD i = bits.reverse.getD i false := by
  induction bits using List.reverseRecOn generalizing i with
  | nil => simp [fieldOf]
  | append_singleton bits b ih =>
    have last : fieldOf w (bits ++ [b]) = fieldOf w bits <<< 1 ||| (BitVec.ofBool b).setWidth w := by simp [fieldOf]
    rw [last, List.reverse_append]
    cases i with
    | zero => simp [h]
    | succ i =>
      have upper : ((BitVec.ofBool b).setWidth w).getLsbD (i + 1) = false := by simp
      rw [BitVec.getLsbD_or, upper, BitVec.getLsbD_shiftLeft, Nat.add_sub_cancel, ih i (by omega)]
      simp [h]

/-- A field reads back the bits it is written as. -/
theorem bitsOf_fieldOf {w : Nat} {bits : List Bool} (h : bits.length = w) : bitsOf (fieldOf w bits) = bits := by
  subst h
  refine List.ext_getElem (by simp) fun i _ hi => ?_
  have least : bits.length - 1 - i < bits.length := by omega
  have back : bits.length - 1 - (bits.length - 1 - i) = i := by omega
  rw [getElem_bitsOf, BitVec.getMsbD_eq_getLsbD, fieldOf_getLsbD _ _ least]
  simp [hi, least, back]

theorem bitsOf_injective {w : Nat} : Function.Injective (bitsOf (w := w)) := by
  intro x y h
  refine BitVec.eq_of_getMsbD_eq fun i hi => ?_
  rw [← getElem_bitsOf x (by simpa using hi), ← getElem_bitsOf y (by simpa using hi)]
  simp only [h]

theorem fieldOf_bitsOf {w : Nat} (v : BitVec w) : fieldOf w (bitsOf v) = v := bitsOf_injective (bitsOf_fieldOf (length_bitsOf v))

/-- The first field of a body (R201). -/
@[simp] theorem fieldAt_first {w : Nat} (v : BitVec w) (rest : List Bool) : fieldAt (bitsOf v ++ rest) 0 w = v := by
  rw [fieldAt, List.drop_zero, List.take_left' (length_bitsOf v), fieldOf_bitsOf]

/-- A field beyond the first of a body (R201). -/
theorem fieldAt_beyond {u w i : Nat} (v : BitVec u) (rest : List Bool) (h : u ≤ i) :
    fieldAt (bitsOf v ++ rest) i w = fieldAt rest (i - u) w := by
  rw [fieldAt, fieldAt, List.drop_append, List.drop_eq_nil_of_le (by simpa using h), length_bitsOf, List.nil_append]

@[simp] theorem fieldAt_only {w : Nat} (v : BitVec w) : fieldAt (bitsOf v) 0 w = v := by
  rw [← List.append_nil (bitsOf v), fieldAt_first]

theorem bitsOf_fieldAt {bits : List Bool} {i w : Nat} (h : i + w ≤ bits.length) :
    bitsOf (fieldAt bits i w) = (bits.drop i).take w := bitsOf_fieldOf (by simp; omega)

/-! ## Keys -/

/-- A key is its kind, then its station number (R149). -/
theorem bitsOf_arbitrationKey (kind : KeyKind) (st : Station) :
    bitsOf (arbitrationKey kind st) = bitsOf (BitVec.ofNat 2 kind.code) ++ bitsOf st := bitsOf_append _ _

theorem kindOfCode_code (kind : KeyKind) : kindOfCode (BitVec.ofNat 2 kind.code) = kind := by cases kind <;> rfl

theorem code_kindOfCode (c : BitVec 2) : BitVec.ofNat 2 (kindOfCode c).code = c := by revert c; decide

/-- The five bits of a key are those of the kind and station number read from them (R149). -/
theorem key_of_bits {key : List Bool} (h : key.length = 5) :
    bitsOf (arbitrationKey (kindOfCode (fieldAt key 0 2)) (fieldAt key 2 3)) = key := by
  rw [bitsOf_arbitrationKey, code_kindOfCode, bitsOf_fieldAt (by omega), bitsOf_fieldAt (by omega), List.drop_zero, ← List.take_add,
    List.take_of_length_le (by omega)]

/-! ## Bodies -/

theorem length_bodyBits (body : FrameBody) : (bodyBits body).length = bodyLength (keyKindOf body) := by
  cases body with
  | beacon b => simp [bodyBits, beaconBits, keyKindOf, bodyLength]
  | claim short c => cases short <;> simp [bodyBits, claimBits, keyKindOf, bodyLength]
  | withdraw tag => simp [bodyBits, keyKindOf, bodyLength]

@[simp] theorem keyKindOf_bodyOf (kind : KeyKind) (bits : List Bool) : keyKindOf (bodyOf kind bits) = kind := by cases kind <;> rfl

/-- The body read from its bits is the one written (R201). -/
theorem bodyOf_bodyBits (body : FrameBody) : bodyOf (keyKindOf body) (bodyBits body) = body := by
  cases body with
  | beacon b => simp [bodyBits, beaconBits, keyKindOf, bodyOf, fieldAt_beyond]
  | claim short c => cases short <;> simp [bodyBits, claimBits, keyKindOf, bodyOf, fieldAt_beyond]
  | withdraw tag => simp [bodyBits, keyKindOf, bodyOf]

/-- As many bits as a body has are those of the body read from them (R201). -/
theorem bodyBits_bodyOf {kind : KeyKind} {bits : List Bool} (h : bits.length = bodyLength kind) : bodyBits (bodyOf kind bits) = bits := by
  cases kind with
  | beacon =>
    have h : bits.length = 58 := h
    have flags : [bits.getD 55 false, bits.getD 56 false, bits.getD 57 false] = bits.drop 55 := by
      rw [List.drop_eq_getElem_cons (by omega), List.drop_eq_getElem_cons (by omega), List.drop_eq_getElem_cons (by omega),
        List.drop_of_length_le (by omega)]
      simp [h]
    simp only [bodyBits, beaconBits, bodyOf, flags]
    simp [bitsOf_fieldAt, ← List.take_add, h]
  | claim | shortClaim =>
    have h : bits.length = 117 := h
    simp [bodyBits, claimBits, bodyOf, bitsOf_fieldAt, ← List.take_add, h]
  | withdraw =>
    have h : bits.length = 8 := h
    simp [bodyBits, bodyOf, bitsOf_fieldAt, h]

/-! ## Frames -/

/-- The bits of a frame's key (R149). -/
def keyBits (f : Frame) : List Bool := bitsOf (arbitrationKey (keyKindOf f.body) f.station)

theorem frameBits_eq (f : Frame) : frameBits f = keyBits f ++ bodyBits f.body := rfl

@[simp] theorem length_keyBits (f : Frame) : (keyBits f).length = 5 := length_bitsOf _

/-- The kind read from a frame's key is the kind of its body (R149). -/
theorem kindOfCode_keyBits (f : Frame) : kindOfCode (fieldAt (keyBits f) 0 2) = keyKindOf f.body := by
  rw [keyBits, bitsOf_arbitrationKey, fieldAt_first, kindOfCode_code]

/-- The station number read from a frame's key is the one written (R149). -/
theorem station_keyBits (f : Frame) : fieldAt (keyBits f) 2 3 = f.station := by
  rw [keyBits, bitsOf_arbitrationKey, fieldAt_beyond _ _ le_rfl, Nat.sub_self, fieldAt_only]

/-- A key and a body of its kind are the bits of the frame read from them (R149, R201). -/
theorem frameBits_of_bits {key body : List Bool} (hkey : key.length = 5)
    (hbody : body.length = bodyLength (kindOfCode (fieldAt key 0 2))) :
    frameBits ⟨fieldAt key 2 3, bodyOf (kindOfCode (fieldAt key 0 2)) body⟩ = key ++ body := by
  rw [frameBits, keyKindOf_bodyOf, key_of_bits hkey, bodyBits_bodyOf hbody]

end Sys2Proof.Machine
end

section
/-! O51: no six equal bits stand in a row in stuffed bits (R148). -/

namespace Sys2Proof.Machine

open Sys2Proof

/-! ## Runs on the line -/

/-- The level and length of the run that ends with this bit, from those of the run before it. -/
def runStep (run : Bool × Nat) (b : Bool) : Bool × Nat := (b, if b = run.1 then run.2 + 1 else 1)

/-- The level and length of the run that ends these line bits, from those of the run before them (R148). -/
def runAfter (last : Bool) (run : Nat) (line : List Bool) : Bool × Nat := line.foldl runStep (last, run)

theorem runAfter_cons (last : Bool) (run : Nat) (b : Bool) (line : List Bool) :
    runAfter last run (b :: line) = runAfter b (if b = last then run + 1 else 1) line := rfl

theorem runAfter_concat (last : Bool) (run : Nat) (line : List Bool) (b : Bool) :
    runAfter last run (line ++ [b]) = runStep (runAfter last run line) b := by
  rw [runAfter, List.foldl_append]
  rfl

/-- A bit of the other level begins a run (R148). -/
theorem runAfter_cons_not (last : Bool) (run : Nat) (line : List Bool) : runAfter last run ((!last) :: line) = runAfter (!last) 1 line := by
  rw [runAfter_cons, if_neg (Bool.not_ne_self last)]

/-- Equal bits in a row end in a run of their level that is no shorter than they are. -/
theorem runAfter_replicate (last : Bool) (run : Nat) (before : List Bool) (level : Bool) (k : Nat) :
    (runAfter last run (before ++ List.replicate (k + 1) level)).1 = level ∧
      k + 1 ≤ (runAfter last run (before ++ List.replicate (k + 1) level)).2 := by
  induction k with
  | zero =>
    rw [zero_add, List.replicate_one, runAfter_concat]
    refine ⟨rfl, ?_⟩
    rw [runStep]
    split <;> omega
  | succ k ih =>
    obtain ⟨hlevel, hlength⟩ := ih
    rw [List.replicate_succ', ← List.append_assoc, runAfter_concat, runStep, hlevel, if_pos rfl]
    exact ⟨rfl, Nat.succ_le_succ hlength⟩

/-! ## Stuffing -/

/-- No run of stuffed bits is longer than five: a bit makes it one longer at most, and a run of five is ended by its stuff bit (R148). -/
theorem runAfter_stuffFrom_le (bits : List Bool) {last : Bool} {run : Nat} {cut : List Bool} (hrun : run < 5)
    (hcut : cut <+: stuffFrom last run bits) : (runAfter last run cut).2 ≤ 5 := by
  induction bits generalizing last run cut with
  | nil =>
    rw [List.prefix_nil.mp hcut]
    exact hrun.le
  | cons b bits ih =>
    have grown : (if b = last then run + 1 else 1) ≤ 5 := by split <;> omega
    rw [stuffFrom] at hcut
    by_cases hfive : (if b = last then run + 1 else 1) = 5
    · rw [if_pos hfive] at hcut
      rcases List.prefix_cons_iff.mp hcut with rfl | ⟨cut, rfl, hrest⟩
      · exact hrun.le
      · rcases List.prefix_cons_iff.mp hrest with rfl | ⟨cut, rfl, hafter⟩
        · exact grown
        · rw [runAfter_cons, runAfter_cons_not]
          exact ih (by decide) hafter
    · rw [if_neg hfive] at hcut
      rcases List.prefix_cons_iff.mp hcut with rfl | ⟨cut, rfl, hrest⟩
      · exact hrun.le
      · rw [runAfter_cons]
        exact ih (by omega) hrest

/-- Settles O51: equal bits are no longer than the run they end in, and that is of five bits at most. -/
theorem stuffedRuns : Obligations.StuffedRuns := by
  intro f pre mid post level hline hmid
  rw [List.eq_replicate_of_mem hmid] at hline
  cases hlength : mid.length with
  | zero => exact Nat.zero_le 5
  | succ k =>
    rw [hlength] at hline
    obtain ⟨-, atLeast⟩ := runAfter_replicate true 0 pre level k
    exact atLeast.trans (runAfter_stuffFrom_le (unstuffedBits f) (by decide) ⟨post, hline.symm⟩)

end Sys2Proof.Machine
end

section
/-! O50: what a receiver makes of stuffed bits, and of bits that are no frame (R148, R149, R159). -/

namespace Sys2Proof.Machine

open Sys2Proof

/-- Bits as `stuffFrom` stuffs them, after a run whose stuff bit, should it have five levels, is yet to come (R148). -/
def stuffAfter (last : Bool) (run : Nat) (bits : List Bool) : List Bool :=
  if run = 5 then (!last) :: stuffFrom (!last) 1 bits else stuffFrom last run bits

theorem stuffAfter_five (last : Bool) (bits : List Bool) : stuffAfter last 5 bits = (!last) :: stuffAfter (!last) 1 bits := rfl

theorem stuffAfter_nil {last : Bool} {run : Nat} (h : run ≠ 5) : stuffAfter last run [] = [] := if_neg h

theorem stuffAfter_cons {last : Bool} {run : Nat} (h : run ≠ 5) (b : Bool) (bits : List Bool) :
    stuffAfter last run (b :: bits) = b :: stuffAfter b (if b = last then run + 1 else 1) bits := by
  rw [stuffAfter, if_neg h, stuffFrom, stuffAfter, apply_ite (b :: ·)]

/-- The line bits of a frame begin with its start mark (R149). -/
theorem stuffFrom_startMark (bits : List Bool) : stuffFrom true 0 (false :: bits) = false :: stuffAfter false 1 bits := rfl

/-- Induction along stuffing: each bit lengthens or ends the run, and before the bit after a run of five stands the stuff bit (R148). -/
theorem stuffing_induction {motive : List Bool → Bool → Nat → Prop} (nil : ∀ last run, motive [] last run)
    (cons : ∀ b bits last run, run ≠ 5 → motive bits b (if b = last then run + 1 else 1) → motive (b :: bits) last run)
    (stuff : ∀ b bits last, motive (b :: bits) (!last) 1 → motive (b :: bits) last 5) (bits : List Bool) (last : Bool) (run : Nat) :
    motive bits last run := by
  induction bits generalizing last run with
  | nil => exact nil last run
  | cons b bits ih =>
    by_cases h : run = 5
    · exact h ▸ stuff b bits last (cons b bits (!last) 1 (by decide) (ih b _))
    · exact cons b bits last run h (ih b _)

/-! ## Unstuffing -/

theorem unstuff_zero (last : Bool) (run : Nat) (rest : List Bool) : unstuff 0 last run rest = .taken ⟨[], rest, last, run⟩ := by
  cases rest <;> rfl

theorem unstuff_stuffBit (n : Nat) (last : Bool) (rest : List Bool) : unstuff (n + 1) last 5 ((!last) :: rest) =
    unstuff (n + 1) (!last) 1 rest := by
  rw [unstuff, if_pos rfl, if_neg (Bool.not_ne_self last)]

theorem unstuff_sixth (n : Nat) (last : Bool) (rest : List Bool) : unstuff (n + 1) last 5 (last :: rest) = .bad (stuffError last) := by
  rw [unstuff, if_pos rfl, if_pos rfl]

theorem unstuff_bit {run : Nat} (h : run ≠ 5) (n : Nat) (last b : Bool) (rest : List Bool) : unstuff (n + 1) last run (b :: rest) =
    (unstuff n b (if b = last then run + 1 else 1) rest).map fun t => { t with bits := b :: t.bits } := by
  rw [unstuff, if_neg h]

/-- Stuffed bits are taken as the bits they were stuffed from, and what was stuffed after them remains (R148). -/
theorem unstuff_stuffAfter (bits more rest : List Bool) (last : Bool) (run : Nat) :
    ∃ l r, unstuff bits.length last run (stuffAfter last run (bits ++ more) ++ rest) =
      .taken ⟨bits, stuffAfter l r more ++ rest, l, r⟩ := by
  induction bits, last, run using stuffing_induction with
  | nil last run => exact ⟨last, run, unstuff_zero _ _ _⟩
  | cons b bits last run h ih =>
    obtain ⟨l, r, ih⟩ := ih
    refine ⟨l, r, ?_⟩
    rw [List.length_cons, List.cons_append, stuffAfter_cons h, List.cons_append, unstuff_bit h, ih]
    rfl
  | stuff b bits last ih =>
    rw [List.cons_append, stuffAfter_five, List.cons_append, List.length_cons, unstuff_stuffBit]
    exact ih

/-- A stuffed line that is cut after a run of five and goes on with its level: the sixth equal level is a stuff error, at once or in the
bits that remain (R148, R159). -/
theorem unstuff_cut (bits more rest : List Bool) (last : Bool) (run : Nat) {cut : List Bool} {level : Bool}
    (hcut : cut <+: stuffAfter last run (bits ++ more)) (hrun : runAfter last run cut = (level, 5)) :
    unstuff bits.length last run (cut ++ level :: rest) = .bad (stuffError level) ∨
    ∃ l r left, unstuff bits.length last run (cut ++ level :: rest) = .taken ⟨bits, left ++ level :: rest, l, r⟩ ∧
      left <+: stuffAfter l r more ∧ runAfter l r left = (level, 5) := by
  induction bits, last, run using stuffing_induction generalizing cut with
  | nil last run => exact .inr ⟨last, run, cut, unstuff_zero _ _ _, hcut, hrun⟩
  | cons b bits last run h ih =>
    rw [List.cons_append, stuffAfter_cons h] at hcut
    rcases List.prefix_cons_iff.mp hcut with rfl | ⟨cut, rfl, hrest⟩
    · exact absurd (congrArg Prod.snd hrun) h
    · rw [List.length_cons, List.cons_append, unstuff_bit h]
      rcases ih hrest hrun with bad | ⟨l, r, left, taken, hleft⟩
      · exact .inl (by rw [bad]; rfl)
      · exact .inr ⟨l, r, left, by rw [taken]; rfl, hleft⟩
  | stuff b bits last ih =>
    rw [List.cons_append, stuffAfter_five] at hcut
    rcases List.prefix_cons_iff.mp hcut with rfl | ⟨cut, rfl, hrest⟩
    · obtain rfl : last = level := congrArg Prod.fst hrun
      exact .inl (unstuff_sixth _ _ _)
    · rw [runAfter_cons_not] at hrun
      rw [List.cons_append, List.length_cons, unstuff_stuffBit]
      exact ih hrest hrun

theorem Reception.map_eq_unfinished {r : Reception α} {f : α → β} : r.map f = .unfinished ↔ r = .unfinished := by
  cases r <;> simp

theorem Reception.map_eq_taken {r : Reception α} {f : α → β} {b : β} : r.map f = .taken b ↔ ∃ a, r = .taken a ∧ f a = b := by
  cases r <;> simp

/-- What is taken of a line stood stuffed at its front, before what remains of it (R148). -/
theorem line_of_unstuff {n : Nat} {last : Bool} {run : Nat} {line : List Bool} {t : Taking} (h : unstuff n last run line = .taken t) :
    t.bits.length = n ∧
      ∀ more rest, t.rest = stuffAfter t.last t.run more ++ rest → line = stuffAfter last run (t.bits ++ more) ++ rest := by
  induction n, last, run, line using unstuff.induct generalizing t with
  | case1 last run line =>
    rw [unstuff_zero] at h
    cases h
    exact ⟨rfl, fun _ _ hline => hline⟩
  | case2 n last run => cases h
  | case3 n last line =>
    rw [unstuff_sixth] at h
    cases h
  | case4 n last b line hb ih =>
    obtain rfl : b = !last := Bool.eq_not.mpr hb
    rw [unstuff_stuffBit] at h
    obtain ⟨hlength, hline⟩ := ih h
    refine ⟨hlength, fun more rest hrest => ?_⟩
    rw [stuffAfter_five, hline more rest hrest]
    rfl
  | case5 n last run b line hrun ih =>
    rw [unstuff_bit hrun] at h
    obtain ⟨u, hu, rfl⟩ := Reception.map_eq_taken.mp h
    obtain ⟨hlength, hline⟩ := ih hu
    refine ⟨congrArg Nat.succ hlength, fun more rest hrest => ?_⟩
    rw [hline more rest hrest, List.cons_append, stuffAfter_cons hrun]
    rfl

/-- Each bit taken makes the run longer by one at most, and each stuff bit makes a run of five one of one: so n bits come with at most
one stuff bit for four of them and of the run before them, and a line on which they do not end is shorter (R148). -/
theorem unstuff_length (n : Nat) (last : Bool) (run : Nat) (line : List Bool) :
    (∀ t, unstuff n last run line = .taken t → 4 * line.length + t.run ≤ 4 * t.rest.length + run + 5 * n) ∧
    (unstuff n last run line = .unfinished → 4 * line.length + 5 ≤ run + 5 * n) := by
  induction n, last, run, line using unstuff.induct with
  | case1 last run line =>
    rw [unstuff_zero]
    refine ⟨fun t h => ?_, nofun⟩
    cases h
    simp
  | case2 n last run => exact ⟨nofun, fun _ => by simp; omega⟩
  | case3 n last line =>
    rw [unstuff_sixth]
    exact ⟨nofun, nofun⟩
  | case4 n last b line hb ih =>
    obtain rfl : b = !last := Bool.eq_not.mpr hb
    rw [unstuff_stuffBit, List.length_cons]
    obtain ⟨taken, unfinished⟩ := ih
    refine ⟨fun t h => ?_, fun h => ?_⟩
    · have := taken t h
      omega
    · have := unfinished h
      omega
  | case5 n last run b line hrun ih =>
    have grown : (if b = last then run + 1 else 1) ≤ run + 1 := by split <;> omega
    rw [unstuff_bit hrun, List.length_cons]
    obtain ⟨taken, unfinished⟩ := ih
    refine ⟨fun t h => ?_, fun h => ?_⟩
    · obtain ⟨u, hu, rfl⟩ := Reception.map_eq_taken.mp h
      have := taken u hu
      dsimp only
      omega
    · have := unfinished (Reception.map_eq_unfinished.mp h)
      omega

end Sys2Proof.Machine
end

section
/-! O50: the judgement of a line from a start mark on, to the end of the end mark (R149, R159, R161). -/

namespace Sys2Proof.Machine

open Sys2Proof

/-! ## The end mark -/

theorem takeEndMark_recessive (n : Nat) (rest : List Bool) : takeEndMark n (List.replicate n true ++ rest) = .taken () := by
  induction n with
  | zero => cases rest <;> rfl
  | succ n ih => exact ih

theorem takeEndMark_dominant {k n : Nat} (h : k < n) (rest : List Bool) :
    takeEndMark n (List.replicate k true ++ false :: rest) = .bad .endMark := by
  induction k generalizing n with
  | zero =>
    obtain ⟨n, rfl⟩ := Nat.exists_eq_succ_of_ne_zero h.ne'
    rfl
  | succ k ih =>
    obtain ⟨n, rfl⟩ := Nat.exists_eq_succ_of_ne_zero (Nat.zero_lt_of_lt h).ne'
    exact ih (Nat.lt_of_succ_lt_succ h)

theorem line_of_takeEndMark {n : Nat} {line : List Bool} (h : takeEndMark n line = .taken ()) :
    ∃ rest, line = List.replicate n true ++ rest := by
  induction n generalizing line with
  | zero => exact ⟨line, rfl⟩
  | succ n ih =>
    match line with
    | [] => cases h
    | false :: rest => cases h
    | true :: rest =>
      obtain ⟨rest, rfl⟩ := ih h
      exact ⟨rest, rfl⟩

theorem length_of_takeEndMark_unfinished {n : Nat} {line : List Bool} (h : takeEndMark n line = .unfinished) : line.length < n := by
  induction n generalizing line with
  | zero => cases line <;> cases h
  | succ n ih =>
    match line with
    | [] => exact Nat.succ_pos n
    | false :: rest => cases h
    | true :: rest => exact Nat.succ_lt_succ (ih h)

/-! ## The stuff bit after the last CRC bit -/

theorem takeEnd_of_ne {t : Taking} (h : t.run ≠ 5) : takeEnd t = takeEndMark 7 t.rest := if_neg h

theorem takeEnd_stuffBit (bits rest : List Bool) (last : Bool) : takeEnd ⟨bits, (!last) :: rest, last, 5⟩ = takeEndMark 7 rest :=
  if_neg (Bool.not_ne_self last)

theorem takeEnd_sixth (bits rest : List Bool) (last : Bool) : takeEnd ⟨bits, last :: rest, last, 5⟩ = .bad (stuffError last) := by
  rw [takeEnd, if_pos rfl]
  exact if_pos rfl

/-- After the stuffed bits stands the end mark (R149). -/
theorem takeEnd_stuffAfter (bits rest : List Bool) (last : Bool) (run : Nat) :
    takeEnd ⟨bits, stuffAfter last run [] ++ rest, last, run⟩ = takeEndMark 7 rest := by
  by_cases h : run = 5
  · subst h
    exact takeEnd_stuffBit _ _ _
  · rw [takeEnd_of_ne h, stuffAfter_nil h]
    rfl

/-- A line that goes on with a sixth equal level instead of the last stuff bit (R148, R159). -/
theorem takeEnd_cut (bits rest : List Bool) {last : Bool} {run : Nat} {left : List Bool} {level : Bool}
    (hleft : left <+: stuffAfter last run []) (hrun : runAfter last run left = (level, 5)) :
    takeEnd ⟨bits, left ++ level :: rest, last, run⟩ = .bad (stuffError level) := by
  by_cases h : run = 5
  · subst h
    rcases List.prefix_cons_iff.mp hleft with rfl | ⟨left, rfl, hnil⟩
    · obtain rfl : last = level := congrArg Prod.fst hrun
      exact takeEnd_sixth _ _ _
    · rw [List.prefix_nil.mp hnil, runAfter_cons_not] at hrun
      cases hrun
  · rw [stuffAfter_nil h] at hleft
    rw [List.prefix_nil.mp hleft] at hrun
    exact absurd (congrArg Prod.snd hrun) h

/-- The end of a frame is judged by the end mark after the last stuff bit, if any is due, unless the line ends before that stuff bit or a
sixth equal level stands in its place (R148, R149). -/
theorem takeEnd_cases (t : Taking) :
    (∃ rest, t.rest = stuffAfter t.last t.run [] ++ rest ∧ takeEnd t = takeEndMark 7 rest) ∨
    (t.rest = [] ∧ takeEnd t = .unfinished) ∨ takeEnd t = .bad (stuffError t.last) := by
  obtain ⟨bits, line, last, run⟩ := t
  by_cases hrun : run = 5
  · subst hrun
    match line with
    | [] => exact .inr (.inl ⟨rfl, rfl⟩)
    | b :: line =>
      by_cases hb : b = last
      · subst hb
        exact .inr (.inr (takeEnd_sixth _ _ _))
      · obtain rfl : b = !last := Bool.eq_not.mpr hb
        exact .inl ⟨line, rfl, takeEnd_stuffBit _ _ _⟩
  · exact .inl ⟨line, by rw [stuffAfter_nil hrun, List.nil_append], takeEnd_of_ne hrun⟩

theorem rest_of_takeEnd {t : Taking} (h : takeEnd t = .taken ()) :
    ∃ rest, t.rest = stuffAfter t.last t.run [] ++ (endMark ++ rest) := by
  rcases takeEnd_cases t with ⟨line, hline, he⟩ | ⟨-, he⟩ | he <;> rw [he] at h
  · obtain ⟨rest, rfl⟩ := line_of_takeEndMark h
    exact ⟨rest, hline⟩
  · cases h
  · cases h

/-- A stuff bit is due after a run of five alone (R148). -/
theorem length_stuffAfter_nil (last : Bool) (run : Nat) : 4 * (stuffAfter last run []).length ≤ run := by
  by_cases h : run = 5
  · subst h
    exact Nat.le_succ 4
  · rw [stuffAfter_nil h]
    exact Nat.zero_le run

theorem length_of_takeEnd_unfinished {t : Taking} (h : takeEnd t = .unfinished) : 4 * t.rest.length ≤ t.run + 24 := by
  rcases takeEnd_cases t with ⟨line, hline, he⟩ | ⟨hnil, -⟩ | he
  · have short := length_of_takeEndMark_unfinished (he.symm.trans h)
    have due := length_stuffAfter_nil t.last t.run
    rw [hline, List.length_append]
    omega
  · rw [hnil]
    exact Nat.zero_le _
  · rw [he] at h
    cases h

/-! ## The judgement -/

/-- What a receiver makes of the bits after the key (R149, R159). -/
def judgeBody (head : Taking) : Reception Frame :=
  let kind := kindOfCode (fieldAt head.bits 0 2)
  (unstuff (bodyLength kind + 16) head.last head.run head.rest).andThen fun tail =>
    let body := tail.bits.take (bodyLength kind)
    if tail.bits.drop (bodyLength kind) = bitsOf (crcOf (head.bits ++ body)) then
      (takeEnd tail).map fun _ => { station := fieldAt head.bits 2 3, body := bodyOf kind body }
    else .bad .crc

theorem judgeBits_startMark (line : List Bool) : judgeBits (false :: line) = (unstuff 5 false 1 line).andThen judgeBody := rfl

/-- The bits after a frame's key are judged as they are taken: as many as the frame's body and CRC have (R149). -/
theorem judgeBody_of_bad (f : Frame) (crc : BitVec 16) {line : List Bool} {last : Bool} {run : Nat} {cause : BadFrameCause}
    (h : unstuff (bodyBits f.body ++ bitsOf crc).length last run line = .bad cause) :
    judgeBody ⟨keyBits f, line, last, run⟩ = .bad cause := by
  rw [List.length_append, length_bitsOf, length_bodyBits] at h
  simp only [judgeBody, kindOfCode_keyBits, h, Reception.andThen_bad]

/-- The bits of a frame's body and of any CRC, once taken, are judged by the CRC of the frame, and then by its end (R149, R159). -/
theorem judgeBody_of_taken (f : Frame) (crc : BitVec 16) {line rest : List Bool} {last last' : Bool} {run run' : Nat}
    (h : unstuff (bodyBits f.body ++ bitsOf crc).length last run line = .taken ⟨bodyBits f.body ++ bitsOf crc, rest, last', run'⟩) :
    judgeBody ⟨keyBits f, line, last, run⟩ =
      if crc = crcOf (frameBits f) then (takeEnd ⟨bodyBits f.body ++ bitsOf crc, rest, last', run'⟩).map fun _ => f else .bad .crc := by
  have hlength := length_bodyBits f.body
  rw [List.length_append, length_bitsOf, hlength] at h
  simp only [judgeBody, kindOfCode_keyBits, h, Reception.andThen_taken, List.take_left' hlength, List.drop_left' hlength, station_keyBits,
    bodyOf_bodyBits, bitsOf_injective.eq_iff, frameBits_eq]
  rfl

/-- A frame's stuffed bits, with any CRC, are judged by the CRC, and then by the bits after them (R149, R159). -/
theorem judgeBits_stuffFrom (f : Frame) (crc : BitVec 16) (rest : List Bool) :
    judgeBits (stuffFrom true 0 (false :: frameBits f ++ bitsOf crc) ++ rest) =
      if crc = crcOf (frameBits f) then (takeEndMark 7 rest).map fun _ => f else .bad .crc := by
  obtain ⟨l, r, hkey⟩ := unstuff_stuffAfter (keyBits f) (bodyBits f.body ++ bitsOf crc) rest false 1
  obtain ⟨level, run, hbody⟩ := unstuff_stuffAfter (bodyBits f.body ++ bitsOf crc) [] rest l r
  rw [length_keyBits] at hkey
  rw [List.append_nil] at hbody
  rw [List.cons_append, stuffFrom_startMark, List.cons_append, judgeBits_startMark, frameBits_eq, List.append_assoc, hkey,
    Reception.andThen_taken, judgeBody_of_taken f crc hbody, takeEnd_stuffAfter, frameBits_eq]

/-- A frame's line bits are taken as that frame, whatever follows them (R159). -/
theorem judgeBits_lineBits (f : Frame) (rest : List Bool) : judgeBits (lineBits f ++ rest) = .taken f := by
  rw [lineBits, List.append_assoc, unstuffedBits, judgeBits_stuffFrom, if_pos rfl, endMark, takeEndMark_recessive, Reception.map_taken]

/-- The bits after the key of a frame that is taken are the rest of its stuffed bits and the end mark (R149, R159). -/
theorem rest_of_judgeBody {head : Taking} {f : Frame} (hlength : head.bits.length = 5) (h : judgeBody head = .taken f) :
    ∃ bits rest, frameBits f ++ bitsOf (crcOf (frameBits f)) = head.bits ++ bits ∧
      head.rest = stuffAfter head.last head.run bits ++ (endMark ++ rest) := by
  obtain ⟨tail, htail, h⟩ := Reception.andThen_eq_taken.mp h
  obtain ⟨tailLength, hbody⟩ := line_of_unstuff htail
  dsimp only at h
  split at h
  case isFalse => cases h
  case isTrue hcrc =>
    obtain ⟨_, hend, rfl⟩ := Reception.map_eq_taken.mp h
    obtain ⟨rest, hrest⟩ := rest_of_takeEnd hend
    refine ⟨tail.bits, rest, ?_, ?_⟩
    · rw [frameBits_of_bits hlength (by simp [tailLength]), ← hcrc, List.append_assoc, List.take_append_drop]
    · rw [hbody [] _ hrest, List.append_nil]

/-- A line that is taken as a frame begins with that frame's line bits (R159). -/
theorem line_of_judgeBits {line : List Bool} {f : Frame} (h : judgeBits line = .taken f) : ∃ rest, line = lineBits f ++ rest := by
  match line with
  | [] => cases h
  | true :: line => cases h
  | false :: line =>
    rw [judgeBits_startMark] at h
    obtain ⟨head, hhead, h⟩ := Reception.andThen_eq_taken.mp h
    obtain ⟨hlength, hkey⟩ := line_of_unstuff hhead
    obtain ⟨bits, rest, hbits, hrest⟩ := rest_of_judgeBody hlength h
    exact ⟨rest, by rw [hkey bits _ hrest, lineBits, unstuffedBits, List.cons_append, stuffFrom_startMark, hbits,
      List.cons_append, List.cons_append, List.append_assoc]⟩

/-- The bits after the key of a frame that has no end yet are fewer than the longest body, its CRC, their stuff bits and an end mark. -/
theorem length_of_judgeBody_unfinished {head : Taking} (h : judgeBody head = .unfinished) : 4 * head.rest.length ≤ head.run + 689 := by
  have longest : bodyLength (kindOfCode (fieldAt head.bits 0 2)) ≤ 117 := by
    cases kindOfCode (fieldAt head.bits 0 2) <;> decide
  rw [judgeBody] at h
  dsimp only at h
  generalize bodyLength (kindOfCode (fieldAt head.bits 0 2)) = bodyLength at longest h
  obtain ⟨taken, unfinished⟩ := unstuff_length (bodyLength + 16) head.last head.run head.rest
  cases htail : unstuff (bodyLength + 16) head.last head.run head.rest with
  | unfinished =>
    have := unfinished htail
    omega
  | bad cause =>
    rw [htail] at h
    cases h
  | taken tail =>
    have := taken tail htail
    rw [htail, Reception.andThen_taken] at h
    split at h
    case isFalse => cases h
    case isTrue =>
      have := length_of_takeEnd_unfinished (Reception.map_eq_unfinished.mp h)
      omega

/-- A line with no end yet is shorter than a longest frame: 139 bits, 34 stuff bits and the end mark (R148, R149). -/
theorem length_of_judgeBits_unfinished {line : List Bool} (h : judgeBits (false :: line) = .unfinished) : (false :: line).length < 180 := by
  rw [judgeBits_startMark] at h
  obtain ⟨taken, unfinished⟩ := unstuff_length 5 false 1 line
  rw [List.length_cons]
  cases hhead : unstuff 5 false 1 line with
  | unfinished =>
    have := unfinished hhead
    omega
  | bad cause =>
    rw [hhead] at h
    cases h
  | taken head =>
    rw [hhead, Reception.andThen_taken] at h
    have := taken head hhead
    have := length_of_judgeBody_unfinished h
    omega

/-- The bits after a frame's key, cut after five equal levels and gone on with a sixth, are judged bad for it (R148, R159). -/
theorem judgeBody_cut (f : Frame) (rest : List Bool) {cut : List Bool} {last level : Bool} {run : Nat}
    (hcut : cut <+: stuffAfter last run (bodyBits f.body ++ bitsOf (crcOf (frameBits f)))) (hrun : runAfter last run cut = (level, 5)) :
    judgeBody ⟨keyBits f, cut ++ level :: rest, last, run⟩ = .bad (stuffError level) := by
  rw [← List.append_nil (bodyBits f.body ++ _)] at hcut
  rcases unstuff_cut _ [] rest last run hcut hrun with bad | ⟨l, r, left, taken, hleft, hrun⟩
  · exact judgeBody_of_bad f _ bad
  · rw [judgeBody_of_taken f _ taken, if_pos rfl, takeEnd_cut _ rest hleft hrun, Reception.map_bad]

/-- A frame's stuffed line, cut after five equal levels and gone on with a sixth, is judged bad for it (R148, R159). -/
theorem judgeBits_cut (f : Frame) (rest : List Bool) {cut : List Bool} {level : Bool} (hcut : cut <+: stuffFrom true 0 (unstuffedBits f))
    (hrun : runAfter true 0 cut = (level, 5)) : judgeBits (cut ++ level :: rest) = .bad (stuffError level) := by
  rw [unstuffedBits, List.cons_append, stuffFrom_startMark, frameBits_eq, List.append_assoc, ← frameBits_eq] at hcut
  rcases List.prefix_cons_iff.mp hcut with rfl | ⟨cut, rfl, hafter⟩
  · cases hrun
  · rw [List.cons_append, judgeBits_startMark, ← length_keyBits f]
    rcases unstuff_cut (keyBits f) _ rest false 1 hafter hrun with bad | ⟨l, r, left, taken, hleft, hrun⟩
    · rw [bad, Reception.andThen_bad]
    · rw [taken, Reception.andThen_taken, judgeBody_cut f rest hleft hrun]

/-! ## Commands -/

theorem commandOfLine_of_bad {line : List Bool} {cause : BadFrameCause} (h : judgeBits line = .bad cause) (own : Station) :
    commandOfLine own line = some (.badFrame [] cause) := by rw [commandOfLine, h]

theorem commandOfLine_lineBits (own : Station) (f : Frame) (rest : List Bool) :
    commandOfLine own (lineBits f ++ rest) = some (commandOfFrame own f) := by rw [commandOfLine, judgeBits_lineBits]

/-- Settles O50: the judgement of a frame's line bits, of a line that is taken, of one that is not, and of those that depart from a
frame's line bits at its CRC, at its end mark, or after a run of five. -/
theorem framesAreReceived : Obligations.FramesAreReceived := by
  have received : ∀ f rest, receiveBits (lineBits f ++ rest) = some f :=
    fun f rest => receiveBits_eq_some.mpr (judgeBits_lineBits f rest)
  refine ⟨fun f => ?taken, fun line f => ⟨fun h => line_of_judgeBits (receiveBits_eq_some.mp h), ?only⟩,
    fun own line => ⟨?command, ?bad, fun f rest => ⟨fun crc hcrc => ?crc, fun k hk => ?endMark, ?stuff⟩⟩⟩
  case taken => simpa using received f []
  case only =>
    rintro ⟨rest, rfl⟩
    exact received f rest
  case command =>
    rintro f rest rfl
    rw [commandOfLine_lineBits]
    refine ⟨fun h => congrArg some (if_pos h), fun h => ⟨fun b hb => ?_, fun short c hc => ?_, fun tag ht => ?_⟩⟩
    · rw [commandOfFrame, if_neg h, hb]
    · rw [commandOfFrame, if_neg h, hc]
    · rw [commandOfFrame, if_neg h, ht]
  case bad =>
    intro hno hhead hlong
    obtain ⟨line, rfl⟩ := List.head?_eq_some_iff.mp hhead
    cases h : judgeBits (false :: line) with
    | unfinished => exact absurd (length_of_judgeBits_unfinished h) (Nat.not_lt.mpr hlong)
    | bad cause => exact ⟨cause, commandOfLine_of_bad h own⟩
    | taken f =>
      obtain ⟨rest, hline⟩ := line_of_judgeBits h
      exact absurd hline (hno f rest)
  case crc =>
    apply commandOfLine_of_bad
    rw [judgeBits_stuffFrom, if_neg hcrc]
  case endMark =>
    apply commandOfLine_of_bad
    rw [List.append_assoc, unstuffedBits, judgeBits_stuffFrom, if_pos rfl, takeEndMark_dominant hk]
    rfl
  case stuff =>
    intro pre post level hline
    have hcut : pre ++ List.replicate 5 level <+: stuffFrom true 0 (unstuffedBits f) := ⟨post, hline.symm⟩
    obtain ⟨hlevel, atLeast⟩ := runAfter_replicate true 0 pre level 4
    have hrun : runAfter true 0 (pre ++ List.replicate 5 level) = (level, 5) :=
      Prod.ext hlevel ((runAfter_stuffFrom_le _ (by decide) hcut).antisymm atLeast)
    rw [List.replicate_succ' (n := 5), ← List.append_assoc, List.append_assoc _ [level]]
    exact commandOfLine_of_bad (judgeBits_cut f rest hcut hrun) own

end Sys2Proof.Machine
end

section
/-! O18 and O19: CLEAR_LINE, CLEAR_ACK and ALARM_CLEAR. -/

namespace Sys2Proof.Machine

open Sys2Proof

variable {s : State}

/-! ## CLEAR_LINE -/

/-- The contending frame, if any, leaves the queue (R156). -/
theorem queue_without_contending (queue : List QueuedFrame) (contending : Option Contender) :
    queue.filter (fun f => some f.ref != contending.map (·.ref)) =
      match contending with
      | none => queue
      | some c => queue.filter (·.ref ≠ c.ref) := by
  cases contending with
  | none => simp
  | some c => simp [bne, Bool.beq_eq_decide_eq]

/-- LC at the start of the clear drive (R150, R156, R163). -/
theorem LineController.startClear_eq (l : LineController) (now : Time) : l.startClear now =
    { l with
      driver := .dominant
      receiver := match l.receiver with
        | .waitIdle _ => .waitIdle 0
        | .idle => .frame
        | .frame => .frame
      latch := if l.receiver = .idle then some now else l.latch
      queue := match l.contending with
        | none => l.queue
        | some c => l.queue.filter (·.ref ≠ c.ref)
      contending := none
      inTransmission := none
      stretch := match l.stretch with
        | none => some now
        | some start => some start
      clearDrive := some (later now 48) } := by
  unfold LineController.startClear
  rw [queue_without_contending]
  cases l.receiver <;> cases l.stretch <;> rfl

/-- Settles O18: the REPLY, then the clear drive of LC. -/
theorem clearLineStarts : Obligations.ClearLineStarts := by
  intro whole s b hl hb hf hj
  have joined : b.joined = true := by rw [← hb, riseCsn_joined, hj]
  refine rise_settles hl rfl hb hf ?_
  rw [State.handleClearLine, whenJoined_of_joined joined]
  exact congrArg (fun lc => { b.accept kindClearLine [] with lc := lc }) (LineController.startClear_eq b.lc b.now)

/-! ## CLEAR_ACK and ALARM_CLEAR -/

/-- The flags cleared leave the set (R182). -/
theorem clearAlarms_inSet (a : Alarm) (f : FlagSet) : a.inSet (s.clearAlarms f).au.flags = (a.inSet s.au.flags && !a.inSet f) := by
  rw [show (s.clearAlarms f).au.flags = s.au.flags &&& ~~~f from rfl, Alarm.inSet_and, Alarm.inSet_not]

/-- A flag is left out of those to be cleared while its condition is present (R182). -/
theorem inSet_unlessPresent (a b : Alarm) (present : Bool) :
    a.inSet (if present then ~~~b.bit else ~~~0) = !(a == b && present) := by
  cases present with
  | false => rw [if_neg Bool.false_ne_true, Alarm.inSet_not, Alarm.inSet_zero, Bool.and_false]
  | true => rw [if_pos rfl, Alarm.inSet_not, Alarm.inSet_bit, Bool.and_true]

/-- An ALARM_CLEAR clears the flags named but CLEAR_UNACKED and those whose condition is present (R182). -/
theorem AlarmUnit.inSet_clearable (u : AlarmUnit) (named : FlagSet) (a : Alarm) : a.inSet (u.clearable named) =
    (a.inSet named && a != .clearUnacked && !(a == .clockSuspect && u.suspectCondition) && !(a == .lineStuck && u.stuckCondition)) := by
  rw [AlarmUnit.clearable, Alarm.inSet_and, Alarm.inSet_and, Alarm.inSet_and, inSet_unlessPresent, inSet_unlessPresent, Alarm.inSet_not,
    Alarm.inSet_bit]
  rfl

/-- Settles O19: outside HALTED each handler is its REPLY and the clear of its flags. -/
theorem clearAckAlarmClear : Obligations.ClearAckAlarmClear := by
  intro whole s b hl hb hf hh
  have halted : b.halted = false := by rw [← hb]; simpa using hh
  have ack : b.lc.ack = s.lc.ack := by rw [← hb]; simp
  refine ⟨?clearAck, fun flags => ?alarmClear⟩
  case clearAck =>
    obtain ⟨t, ht, follows⟩ := rise_settles (c := .clearAck whole) hl rfl hb hf rfl
    simp only [State.handleClearAck, halted, Bool.false_eq_true, if_false, ack] at follows
    refine ⟨t, ht, fun hack => ?_, fun hack => ?_⟩
    · rw [if_pos hack] at follows
      exact follows
    · rw [if_neg hack] at follows
      exact ⟨_, follows, rfl, rfl, fun a => clearAlarms_bit_inSet a .clearUnacked⟩
  case alarmClear =>
    obtain ⟨t, ht, follows⟩ := rise_settles (c := .alarmClear whole flags) hl rfl hb hf rfl
    simp only [State.handleAlarmClear, halted, Bool.false_eq_true, if_false] at follows
    refine ⟨t, ht, _, follows, rfl, rfl, fun a => ?_⟩
    rw [clearAlarms_inSet, AlarmUnit.inSet_clearable]
    rfl

end Sys2Proof.Machine
end

section
/-! O47: LINE_STUCK_DETECTED, DOMINANT_STRETCH_END and CLEAR_DRIVE_END. -/

namespace Sys2Proof.Machine

open Sys2Proof

variable {s : State}

/-- A detected stretch that has lasted 2,000 µs is due as a stuck line (R166). -/
theorem stuckDue_of_distance {start : Time} (hd : s.lc.clearDetected = true) (hc : s.au.stuckCondition = false)
    (hs : s.lc.stretch = some start) (hdist : s.distance (later start 2000) ≤ 0) : s.stuckDue = true := by
  simpa [State.stuckDue, State.dueSome, State.due, Config.stuckStretch, hd, hc, hs] using hdist

theorem driveEndDue_of_distance {ends : Time} (hs : s.lc.clearDrive = some ends) (hdist : s.distance ends ≤ 0) : s.driveEndDue = true := by
  simpa [State.driveEndDue, State.dueSome, State.due, hs] using hdist

theorem clearDue_of_detected (hd : s.lc.clearDetected = true) : s.clearDue = false := by
  rw [State.clearDue, hd]
  rfl

/-- A stretch short of 64 bit times is no line clear (R162). -/
theorem clearDue_of_short (h : ∀ start, s.lc.stretch = some start → 0 < s.distance (later start 32)) : s.clearDue = false := by
  rw [Bool.eq_false_iff, ne_eq, clearDue_iff]
  rintro ⟨-, start, hs, hdist⟩
  exact absurd (h start hs) (Int.not_lt.mpr hdist)

/-- The end of a stretch that no clear drive makes and that is no line clear yet to be detected (R162). -/
theorem execDominantStretchEnd_eq (hw : s.working = true) (hdrive : s.lc.clearDrive = none) (hclear : s.clearDue = false) :
    execDominantStretchEnd s = .next s.endStretch := occurs_of_enabled (by simp [hw, hdrive, hclear]) _ s

/-- A dominant bit sets the count toward line idle back to 0, and is a level of the frame in progress or of none (R150). -/
theorem Receiver.follow_fall (r : Receiver) : r.follow .fall = match r with
    | .waitIdle _ => .waitIdle 0
    | .idle => .idle
    | .frame => .frame := by
  cases r <;> rfl

/-- A stretch with no detection leaves a frame in progress, and sets a count toward line idle back to 0 (R150, R162). -/
theorem endStretch_of_undetected (hd : s.lc.clearDetected = false) : s.endStretch =
    { s with lc := { s.lc with
      receiver := match s.lc.receiver with
        | .waitIdle _ => .waitIdle 0
        | .idle => .idle
        | .frame => .frame
      stretch := none } } := by
  rw [State.endStretch, if_neg (by simp [hd])]
  exact congrArg (fun r => { s with lc := { s.lc with receiver := r, stretch := none } }) (Receiver.follow_fall s.lc.receiver)

/-- Settles O47: the stuck line, the three cases of the end of a stretch, and the end of the clear drive. -/
theorem dominantStretch : Obligations.DominantStretch := by
  refine ⟨?stuck, ?detected, ?due, ?undetected, ?driveEnd⟩
  case stuck =>
    intro s start hw hd hc hs hdist
    exact ⟨_, occurs_of_enabled (by simp [hw, stuckDue_of_distance hd hc hs hdist]) _ s, follows_of_settle rfl⟩
  case detected =>
    intro s hw hd hdrive
    refine (execDominantStretchEnd_eq hw hdrive (clearDue_of_detected hd)).trans (congrArg _ ?_)
    rw [State.endStretch, if_pos hd]
    rfl
  case due =>
    intro s start hd hs hdist
    exact occurs_of_disabled (by simp [clearDue_iff.mpr ⟨hd, start, hs, hdist⟩]) _ s
  case undetected =>
    intro s hw hd hdrive hshort
    exact (execDominantStretchEnd_eq hw hdrive (clearDue_of_short hshort)).trans (congrArg _ (endStretch_of_undetected hd))
  case driveEnd =>
    intro s ends hw hs hdist
    exact occurs_of_enabled (by simp [hw, driveEndDue_of_distance hs hdist]) _ s

end Sys2Proof.Machine
end

section
/-! SUPPORT. The notice queue and the ALERT state, case by case: what a raise, the fall of CSn and the removal of the head notice do (R180,
R185, R186, R192, R194, R196). -/

namespace Sys2Proof.Machine

open Sys2Proof

variable {s : State}

/-! ## Entries -/

/-- Entries are free while fewer than 32 notices are queued (R195). -/
theorem le_freeNotices_iff (k : Nat) (hk : 1 ≤ k) : k ≤ s.freeNotices ↔ s.rp.queue.length + k ≤ 32 := by
  simp only [State.freeNotices, Config.noticeSize]
  omega

/-- A reserve-class notice finds 3 free entries while at most 29 notices are queued (R195). -/
theorem reserve_free_iff : Config.noticeReserve ≤ s.freeNotices ↔ s.rp.queue.length ≤ 29 :=
  (le_freeNotices_iff 3 (by decide)).trans (by omega)

theorem Notice.isAlert_iff {n : Notice} : n.isAlert = true ↔ ∃ c, n = .alert c := by
  cases n <;> simp [Notice.isAlert]

/-- The ALERT in the queue has been composed when one with its flags stands there (R186). -/
theorem alertComposed_iff : s.alertComposed = true ↔ ∃ c, Notice.alert (some c) ∈ s.rp.queue := by
  rw [State.alertComposed, List.any_eq_true]
  constructor
  · rintro ⟨n, hn, hc⟩
    split at hc
    · exact ⟨_, hn⟩
    · cases hc
  · rintro ⟨c, hc⟩
    exact ⟨_, hc, rfl⟩

/-! ## A new raise of an unmasked flag (R185) -/

/-- An ALERT is queued at the end, and the ALERT state is QUEUED (R185, R195, R196). -/
def State.queueAlert (s : State) : State := (s.pushNotice (.alert none)).onAu fun u => { u with alert := .queued }

theorem alertNewRaise_of_room (ha : s.au.alert = .none) (hl : s.rp.queue.length < 32) : s.alertNewRaise = s.queueAlert := by
  rw [State.alertNewRaise, ha]
  exact if_pos ((le_freeNotices_iff 1 le_rfl).mpr hl)

theorem alertNewRaise_of_full (ha : s.au.alert = .none) (hl : 32 ≤ s.rp.queue.length) :
    s.alertNewRaise = s.onAu fun u => { u with alert := .owed } := by
  rw [State.alertNewRaise, ha]
  exact if_neg fun h => by
    rw [le_freeNotices_iff 1 le_rfl] at h
    omega

theorem alertNewRaise_of_queued (ha : s.au.alert = .queued) :
    s.alertNewRaise = s.onAu fun u => { u with newRaise := u.newRaise || s.alertComposed } := by
  rw [State.alertNewRaise, ha]
  cases s.alertComposed <;> simp [State.onAu]

theorem alertNewRaise_of_owed (ha : s.au.alert = .owed) : s.alertNewRaise = s := by
  rw [State.alertNewRaise, ha]

/-- Of AU it changes the ALERT state and the new-raise mark alone. -/
theorem alertNewRaise_au : s.alertNewRaise.au =
    { s.au with alert := s.alertNewRaise.au.alert, newRaise := s.alertNewRaise.au.newRaise } := by
  unfold State.alertNewRaise
  repeat' split
  all_goals rfl

/-- The flag joins those that stand (R180). -/
def State.setFlag (s : State) (a : Alarm) : State := s.onAu fun u => { u with flags := u.flags ||| a.bit }

theorem raiseAlarm_of_set {a : Alarm} (hs : a.inSet s.au.flags = true) : s.raiseAlarm a = s := if_pos hs

theorem raiseAlarm_of_masked {a : Alarm} (hs : a.inSet s.au.flags = false) (hm : a.inSet s.au.alertMask = true) :
    s.raiseAlarm a = (s.setFlag a).workOutHold := by
  simp only [State.raiseAlarm, hs, hm, Bool.false_eq_true, if_false, if_true]
  rfl

theorem raiseAlarm_of_unmasked {a : Alarm} (hs : a.inSet s.au.flags = false) (hm : a.inSet s.au.alertMask = false) :
    s.raiseAlarm a = (s.setFlag a).alertNewRaise.workOutHold := by
  simp only [State.raiseAlarm, hs, hm, Bool.false_eq_true, if_false]
  rfl

/-! ## The fall of CSn (R186, R192) -/

theorem fallCsn_of_empty (hq : s.rp.queue = []) : s.fallCsn = { s with rp := { s.rp with transaction := some ⟨none⟩ } } := by
  rw [State.fallCsn, hq]
  rfl

theorem fallCsn_of_plain {n : Notice} {rest : List Notice} (hq : s.rp.queue = n :: rest) (hn : n.isAlert = false) :
    s.fallCsn = { s with rp := { s.rp with transaction := some ⟨some n⟩ } } := by
  rw [State.fallCsn, hq]
  cases n with
  | alert => cases hn
  | _ => simp only [State.composeHead, State.onRp, ← hq]

theorem fallCsn_of_alert {c : Option (FlagSet × Bool)} {rest : List Notice} (hq : s.rp.queue = .alert c :: rest) :
    s.fallCsn = { s with
      rp := { s.rp with
        queue := .alert (some (s.au.flags, s.au.hold)) :: rest
        transaction := some ⟨some (.alert (some (s.au.flags, s.au.hold)))⟩ }
      au := { s.au with newRaise := false } } := by
  rw [State.fallCsn, hq]
  rfl

/-! ## The removal of the head notice (R185, R194, R196) -/

/-- The head notice has left the queue, and ATTN follows the queue. -/
def State.withoutHead (s : State) (rest : List Notice) : State := s.onRp fun r => { r with queue := rest, attn := !rest.isEmpty }

theorem removeHead_of_plain {m : Notice} {rest : List Notice} (hq : s.rp.queue = m :: rest) (hm : m.isAlert = false)
    (ha : s.au.alert ≠ .owed) : s.removeHead = s.withoutHead rest := by
  rw [State.removeHead, hq]
  cases m with
  | alert => cases hm
  | _ =>
    cases hal : s.au.alert with
    | owed => exact absurd hal ha
    | _ => simp [State.alertAfterRemoval, hal, State.withoutHead]

theorem removeHead_of_owed {m : Notice} {rest : List Notice} (hq : s.rp.queue = m :: rest) (hm : m.isAlert = false)
    (ha : s.au.alert = .owed) : s.removeHead = (s.withoutHead rest).queueAlert := by
  rw [State.removeHead, hq]
  cases m with
  | alert => cases hm
  | _ =>
    simp only [State.alertAfterRemoval, State.onRp_au, ha]
    rfl

theorem removeHead_of_unmarked {c : Option (FlagSet × Bool)} {rest : List Notice} (hq : s.rp.queue = .alert c :: rest)
    (hn : s.au.newRaise = false) : s.removeHead = (s.withoutHead rest).onAu fun u => { u with alert := .none } := by
  rw [State.removeHead, hq]
  simp only [State.alertAfterRemoval, State.onRp_au, hn]
  rfl

theorem removeHead_of_marked {c : Option (FlagSet × Bool)} {rest : List Notice} (hq : s.rp.queue = .alert c :: rest)
    (hn : s.au.newRaise = true) :
    s.removeHead = (s.withoutHead rest).queueAlert.onAu fun u => { u with newRaise := false } := by
  rw [State.removeHead, hq]
  simp only [State.alertAfterRemoval, State.onRp_au, hn, if_true]
  rfl

end Sys2Proof.Machine
end

section
/-! O9, O21 and O22: the fall of CSn and the end of a transaction, an offer, and a raise. -/

namespace Sys2Proof.Machine

open Sys2Proof

variable {s : State}

/-! ## Offers and raises -/

theorem alertNewRaise_queue :
    s.alertNewRaise.rp.queue = s.rp.queue ∨ s.alertNewRaise.rp.queue = s.rp.queue ++ [.alert none] := by
  cases ha : s.au.alert with
  | none =>
    rcases Nat.lt_or_ge s.rp.queue.length 32 with hl | hl
    · exact .inr (by rw [alertNewRaise_of_room ha hl]; rfl)
    · exact .inl (by rw [alertNewRaise_of_full ha hl]; rfl)
  | queued => exact .inl (by rw [alertNewRaise_of_queued ha]; rfl)
  | owed => exact .inl (by rw [alertNewRaise_of_owed ha])

/-- A raise queues nothing but an ALERT (R185). -/
theorem raiseAlarm_queue (a : Alarm) :
    (s.raiseAlarm a).rp.queue = s.rp.queue ∨ (s.raiseAlarm a).rp.queue = s.rp.queue ++ [.alert none] := by
  cases hs : a.inSet s.au.flags with
  | true => exact .inl (by rw [raiseAlarm_of_set hs])
  | false =>
    cases hm : a.inSet s.au.alertMask with
    | true => exact .inl (by rw [raiseAlarm_of_masked hs hm]; rfl)
    | false =>
      rw [raiseAlarm_of_unmasked hs hm]
      exact alertNewRaise_queue (s := s.setFlag a)

/-- Settles O21: the two branches of an offer. -/
theorem noticeOffered : Obligations.NoticeOffered := by
  intro s n
  refine ⟨fun hroom => ?_, fun hfull => ?_⟩
  · rw [State.offerNotice, if_pos (reserve_free_iff.mpr hroom)]
    rfl
  · have lost : s.offerNotice n = s.noticeLost := if_neg fun h => by
      rw [reserve_free_iff] at h
      omega
    rw [lost]
    refine ⟨?_, fun x hx => ?_⟩
    · rw [← saturatingSucc_eq]
      rfl
    · rcases raiseAlarm_queue (s := s.onAu fun u => { u with noticeLosses := saturatingSucc u.noticeLosses }) .noticeLoss with e | e
      · exact .inl (e ▸ hx)
      · rw [State.noticeLost, e, List.mem_append, List.mem_singleton] at hx
        exact hx

/-- Of AU a raise changes the flags, the hold flag, the ALERT state and its mark alone (R180, R185, R187). -/
theorem raiseAlarm_au (a : Alarm) : (s.raiseAlarm a).au =
    { s.au with flags := (s.raiseAlarm a).au.flags, hold := (s.raiseAlarm a).au.hold, alert := (s.raiseAlarm a).au.alert
                newRaise := (s.raiseAlarm a).au.newRaise } := by
  cases hs : a.inSet s.au.flags with
  | true => rw [raiseAlarm_of_set hs]
  | false =>
    cases hm : a.inSet s.au.alertMask with
    | true => rw [raiseAlarm_of_masked hs hm]; rfl
    | false =>
      rw [raiseAlarm_of_unmasked hs hm, State.workOutHold, State.onAu_au, alertNewRaise_au]
      rfl

/-- After a new raise the hold flag is the one its rule gives (R187). -/
theorem raiseAlarm_hold {a : Alarm} (hs : a.inSet s.au.flags = false) : (s.raiseAlarm a).au.hold = (s.raiseAlarm a).au.holdRule := by
  rw [State.raiseAlarm, hs, if_neg Bool.false_ne_true]
  rfl

/-- Settles O22: the flag and the hold flag first, then the ALERT by its state. -/
theorem alarmRaised : Obligations.AlarmRaised := by
  intro s a
  refine ⟨raiseAlarm_of_set, fun hs => ⟨fun x => ?flags, raiseAlarm_hold hs, raiseAlarm_eq s a, raiseAlarm_au a, fun hm => ?masked,
    fun hm ha hl => ?queued, fun hm ha hl => ?full, fun hm ha => ?marked, fun hm ha => ?owed⟩⟩
  case flags => rw [raiseAlarm_inSet, Bool.or_comm]
  case masked =>
    rw [raiseAlarm_of_masked hs hm]
    exact ⟨rfl, rfl, rfl⟩
  case queued =>
    rw [raiseAlarm_of_unmasked hs hm, alertNewRaise_of_room (s := s.setFlag a) ha hl]
    exact ⟨rfl, rfl, rfl⟩
  case full =>
    rw [raiseAlarm_of_unmasked hs hm, alertNewRaise_of_full (s := s.setFlag a) ha hl]
    exact ⟨rfl, rfl, rfl⟩
  case marked =>
    rw [raiseAlarm_of_unmasked hs hm, alertNewRaise_of_queued (s := s.setFlag a) ha]
    refine ⟨ha, rfl, ?_⟩
    rw [← alertComposed_iff]
    exact Bool.or_eq_true _ _ ▸ Iff.rfl
  case owed =>
    rw [raiseAlarm_of_unmasked hs hm, alertNewRaise_of_owed (s := s.setFlag a) ha]
    exact ⟨ha, rfl, rfl⟩

/-! ## Transactions -/

/-- A notice counts as shifted out in full from its length plus 2 whole bytes on (R194). -/
theorem shiftedInFull_iff {tr : Transaction} {whole : Nat} :
    shiftedInFull tr whole = true ↔ ∃ n, tr.out = some n ∧ n.length + 2 ≤ whole := by
  unfold shiftedInFull
  cases tr.out <;> simp

/-- A rise before the notice is shifted out in full ends the transaction alone (R193, R194). -/
theorem riseCsn_of_short {tr : Transaction} {whole : Nat} (ht : s.rp.transaction = some tr) (h : shiftedInFull tr whole = false) :
    s.riseCsn whole = s.onRp fun r => { r with transaction := none } := by
  simp [State.riseCsn, ht, h]

/-- A rise after the notice was shifted out in full removes the head notice (R194). -/
theorem riseCsn_of_full {tr : Transaction} {whole : Nat} (ht : s.rp.transaction = some tr) (h : shiftedInFull tr whole = true) :
    s.riseCsn whole = s.removeHead.onRp fun r => { r with transaction := none } := by
  simp [State.riseCsn, ht, h]

/-- A change of AU and one of RP commute. -/
theorem onAu_onRp (f : AlarmUnit → AlarmUnit) (g : RadioPort → RadioPort) : (s.onAu f).onRp g = (s.onRp g).onAu f := rfl

/-- The end of a transaction after the head notice alone was removed. -/
theorem withoutHead_ends (rest : List Notice) :
    ((s.withoutHead rest).onRp fun r => { r with transaction := none }) = { s with rp := ⟨rest, !rest.isEmpty, none⟩ } := rfl

/-- The end of a transaction after an ALERT took the freed entry. -/
theorem withoutHead_queueAlert_ends (rest : List Notice) :
    ((s.withoutHead rest).queueAlert.onRp fun r => { r with transaction := none }) =
      { s with rp := ⟨rest ++ [.alert none], true, none⟩, au := { s.au with alert := .queued } } := rfl

/-- TRANSACTION_END without a record is the removal step of its rise (R193). -/
theorem exec_transactionEnd_noRecord {whole : Nat} (hl : s.pins.rstLow = false) :
    exec (.transactionEnd whole .noRecord) s = .next (s.riseCsn whole).settle := by
  refine (occurs_of_enabled (by simp [hl]) _ s).trans (congrArg _ ?_)
  exact congrArg State.settle (ite_self _)

/-- Settles O9: the fall by the head notice, and the rise by the removed notice and the ALERT state. -/
theorem transactions : Obligations.Transactions := by
  refine ⟨fun s hl ht => ?fall, fun whole s tr hl ht => ⟨fun hshort => ?short, fun n m rest hout hfull hq => ?removed⟩⟩
  case fall =>
    have fell : exec .csnFall s = .next s.fallCsn := occurs_of_enabled (by simp [hl, ht]) _ s
    rw [fell]
    exact ⟨fun hq => congrArg _ (fallCsn_of_empty hq), fun n rest hq hn => congrArg _ (fallCsn_of_plain hq hn),
      fun c rest hq => congrArg _ (fallCsn_of_alert hq)⟩
  case short =>
    have short : shiftedInFull tr whole = false := by
      rw [Bool.eq_false_iff, ne_eq, shiftedInFull_iff]
      rintro ⟨n, hn, hw⟩
      exact absurd (hshort n hn) (Nat.not_lt.mpr hw)
    refine ⟨_, exec_transactionEnd_noRecord hl, ?_⟩
    rw [riseCsn_of_short ht short]
    exact settle_follows (s.onRp fun r => { r with transaction := none })
  case removed =>
    refine ⟨_, exec_transactionEnd_noRecord hl, ?_⟩
    rw [riseCsn_of_full ht (shiftedInFull_iff.mpr ⟨n, hout, hfull⟩)]
    refine ⟨fun hm ha => ?plain, fun hm ha => ?owed, fun hm hn => ?unmarked, fun hm hn => ?marked⟩
    case plain => rw [removeHead_of_plain hq hm ha, withoutHead_ends]; exact settle_follows _
    case owed => rw [removeHead_of_owed hq hm ha, withoutHead_queueAlert_ends]; exact settle_follows _
    all_goals obtain ⟨c, rfl⟩ := Notice.isAlert_iff.mp hm
    case unmarked => rw [removeHead_of_unmarked hq hn, onAu_onRp, withoutHead_ends]; exact settle_follows _
    case marked => rw [removeHead_of_marked hq hn, onAu_onRp, withoutHead_queueAlert_ends]; exact settle_follows _

end Sys2Proof.Machine
end

section
/-! SUPPORT. What the flags and the notice queue rest on, kept by each shared operation that queues notices, raises flags or clears them (R180,
R184, R185, R195, R196). -/

namespace Sys2Proof.Machine

open Sys2Proof

variable {s t u : State} {cleared : Alarm → Prop}

/-! ## The law of the notice queue -/

/-- The law rests on the ALERT state, the queue and ATTN. -/
theorem noticeLaw_congr (ha : t.au.alert = s.au.alert) (hq : t.rp.queue = s.rp.queue) (hn : t.rp.attn = s.rp.attn) (h : s.NoticeLaw) :
    t.NoticeLaw := by
  rw [State.NoticeLaw] at h ⊢
  rw [ha, hq, hn]
  exact h

/-- Outside QUEUED no ALERT stands in the queue (R185). -/
theorem State.NoticeLaw.no_alert (h : s.NoticeLaw) (ha : s.au.alert ≠ .queued) : s.rp.queue.countP Notice.isAlert = 0 := by
  obtain ⟨-, hcount, -⟩ := h
  rw [hcount, if_neg ha]

/-- A notice other than an ALERT takes a free entry (R195, R196). -/
theorem State.NoticeLaw.pushNotice {n : Notice} (h : s.NoticeLaw) (hf : 1 ≤ s.freeNotices) (hn : n.isAlert = false) :
    (s.pushNotice n).NoticeLaw := by
  obtain ⟨-, hcount, -⟩ := h
  have same : (s.rp.queue ++ [n]).countP Notice.isAlert = s.rp.queue.countP Notice.isAlert := by simp [hn]
  refine ⟨?_, same.trans hcount, ?_⟩
  · simpa [State.pushNotice] using (le_freeNotices_iff 1 le_rfl).mp hf
  · simp [State.pushNotice]

/-- An ALERT takes a free entry of a queue that holds none (R185). -/
theorem queueAlert_noticeLaw (hl : s.rp.queue.length < 32) (hc : s.rp.queue.countP Notice.isAlert = 0) : s.queueAlert.NoticeLaw := by
  refine ⟨?_, ?_, ?_⟩
  · simpa [State.queueAlert, State.pushNotice] using hl
  · simp [State.queueAlert, State.pushNotice, Notice.isAlert, hc]
  · simp [State.queueAlert, State.pushNotice]

/-- A new raise queues the one ALERT, or leaves the queue (R185). -/
theorem alertNewRaise_noticeLaw (h : s.NoticeLaw) : s.alertNewRaise.NoticeLaw := by
  cases ha : s.au.alert with
  | none =>
    have none_queued := h.no_alert (by simp [ha])
    rcases Nat.lt_or_ge s.rp.queue.length 32 with hl | hl
    · rw [alertNewRaise_of_room ha hl]
      exact queueAlert_noticeLaw hl none_queued
    · rw [alertNewRaise_of_full ha hl]
      obtain ⟨hlen, -, hattn⟩ := h
      exact ⟨hlen, by simpa using none_queued, hattn⟩
  | queued =>
    rw [alertNewRaise_of_queued ha]
    exact noticeLaw_congr (s := s) rfl rfl rfl h
  | owed =>
    rw [alertNewRaise_of_owed ha]
    exact h

/-- The removal step keeps the law: the freed entry takes an owed ALERT, or the one a mark calls for (R185, R194). -/
theorem removeHead_noticeLaw (h : s.NoticeLaw) : s.removeHead.NoticeLaw := by
  cases hq : s.rp.queue with
  | nil =>
    rw [State.removeHead, hq]
    exact h
  | cons m rest =>
    have hno := h.no_alert
    obtain ⟨hlen, hcount, -⟩ := h
    rw [hq, List.length_cons] at hlen
    rw [hq, List.countP_cons] at hcount hno
    have hl : (s.withoutHead rest).rp.queue.length < 32 := hlen
    cases hm : m.isAlert with
    | true =>
      have hrest : rest.countP Notice.isAlert = 0 := by
        rw [hm, if_pos rfl] at hcount
        split at hcount <;> omega
      obtain ⟨c, rfl⟩ := Notice.isAlert_iff.mp hm
      cases hn : s.au.newRaise with
      | true =>
        rw [removeHead_of_marked hq hn]
        exact noticeLaw_congr (s := (s.withoutHead rest).queueAlert) rfl rfl rfl (queueAlert_noticeLaw hl hrest)
      | false =>
        rw [removeHead_of_unmarked hq hn]
        exact ⟨hl.le, hrest, rfl⟩
    | false =>
      rw [hm, if_neg Bool.false_ne_true, Nat.add_zero] at hcount hno
      by_cases ha : s.au.alert = .owed
      · rw [removeHead_of_owed hq hm ha]
        exact queueAlert_noticeLaw hl (hno (by simp [ha]))
      · rw [removeHead_of_plain hq hm ha]
        exact ⟨hl.le, hcount, rfl⟩

/-- The fall of CSn composes the ALERT at the head, and queues and removes nothing (R186). -/
theorem fallCsn_noticeLaw (h : s.NoticeLaw) : s.fallCsn.NoticeLaw := by
  cases hq : s.rp.queue with
  | nil =>
    rw [fallCsn_of_empty hq]
    exact noticeLaw_congr (s := s) rfl rfl rfl h
  | cons m rest =>
    cases hm : m.isAlert with
    | true =>
      obtain ⟨c, rfl⟩ := Notice.isAlert_iff.mp hm
      rw [fallCsn_of_alert hq]
      rw [State.NoticeLaw, hq] at h
      exact h
    | false =>
      rw [fallCsn_of_plain hq hm]
      exact noticeLaw_congr (s := s) rfl rfl rfl h

theorem riseCsn_noticeLaw (whole : Nat) (h : s.NoticeLaw) : (s.riseCsn whole).NoticeLaw := by
  have fallen : (if s.rp.transaction.isSome then s else s.fallCsn).NoticeLaw := by
    split
    · exact h
    · exact fallCsn_noticeLaw h
  unfold State.riseCsn
  generalize (if s.rp.transaction.isSome then s else s.fallCsn) = u at fallen ⊢
  dsimp only
  split
  · exact noticeLaw_congr (s := u.removeHead) rfl rfl rfl (removeHead_noticeLaw fallen)
  · exact noticeLaw_congr (s := u) rfl rfl rfl fallen

/-! ## What keeps the flags and the law -/

/-- From `s` to `t` no flag is cleared but those of `cleared`, and the law of the notice queue is kept. -/
structure State.KeepsAlarms (cleared : Alarm → Prop) (s t : State) : Prop where
  flags : ∀ a : Alarm, ¬ cleared a → a.inSet s.au.flags = true → a.inSet t.au.flags = true
  notices : s.NoticeLaw → t.NoticeLaw

namespace State.KeepsAlarms

theorem refl : s.KeepsAlarms cleared s := ⟨fun _ _ => id, id⟩

theorem trans (h : s.KeepsAlarms cleared t) (k : t.KeepsAlarms cleared u) : s.KeepsAlarms cleared u :=
  ⟨fun a ha => k.flags a ha ∘ h.flags a ha, k.notices ∘ h.notices⟩

/-- A change that leaves the flags, the ALERT state, the queue and ATTN. -/
theorem of_same (hf : t.au.flags = s.au.flags := by rfl) (ha : t.au.alert = s.au.alert := by rfl)
    (hq : t.rp.queue = s.rp.queue := by rfl) (hn : t.rp.attn = s.rp.attn := by rfl) : s.KeepsAlarms cleared t :=
  ⟨fun _ _ h => hf ▸ h, noticeLaw_congr ha hq hn⟩

/-- A change of other blocks than AU and RP. -/
theorem of_blocks (ha : t.au = s.au := by simp) (hr : t.rp = s.rp := by simp) : s.KeepsAlarms cleared t :=
  .of_same (by rw [ha]) (by rw [ha]) (by rw [hr]) (by rw [hr])

end State.KeepsAlarms

/-! ## Notices, raises and clears -/

theorem raiseAlarm_keepsAlarms (a : Alarm) : s.KeepsAlarms cleared (s.raiseAlarm a) := by
  refine ⟨fun x _ hx => by rw [raiseAlarm_inSet, hx, Bool.or_true], fun h => ?_⟩
  have set : (s.setFlag a).NoticeLaw := noticeLaw_congr (s := s) rfl rfl rfl h
  cases hs : a.inSet s.au.flags with
  | true => rwa [raiseAlarm_of_set hs]
  | false =>
    cases hm : a.inSet s.au.alertMask with
    | true =>
      rw [raiseAlarm_of_masked hs hm]
      exact noticeLaw_congr rfl rfl rfl set
    | false =>
      rw [raiseAlarm_of_unmasked hs hm]
      exact noticeLaw_congr rfl rfl rfl (alertNewRaise_noticeLaw set)

theorem State.KeepsAlarms.raise (h : s.KeepsAlarms cleared t) (a : Alarm) : s.KeepsAlarms cleared (t.raiseAlarm a) :=
  h.trans (raiseAlarm_keepsAlarms a)

/-- A counter of AU or a condition is set before the flag is raised (R181, R189). -/
theorem State.KeepsAlarms.raise_counted (h : s.KeepsAlarms cleared t) {f : AlarmUnit → AlarmUnit} (a : Alarm)
    (hf : (f t.au).flags = t.au.flags := by rfl) (ha : (f t.au).alert = t.au.alert := by rfl) :
    s.KeepsAlarms cleared ((t.onAu f).raiseAlarm a) := by
  have counted : t.KeepsAlarms cleared (t.onAu f) := .of_same hf ha
  exact (h.trans counted).raise a

theorem countOverrun_keepsAlarms : s.KeepsAlarms cleared s.countOverrun := .raise_counted .refl .grantOverrun

theorem countLateOverlap_keepsAlarms : s.KeepsAlarms cleared s.countLateOverlap := .raise_counted .refl .lateOverlap

theorem countClash_keepsAlarms : s.KeepsAlarms cleared s.countClash := .raise_counted .refl .stationClash

/-- A clear of flags that may be cleared (R182, R184). -/
theorem State.KeepsAlarms.clear (h : s.KeepsAlarms cleared t) {set : FlagSet} (hs : ∀ a : Alarm, a.inSet set = true → cleared a) :
    s.KeepsAlarms cleared (t.clearAlarms set) := by
  refine h.trans ⟨fun a ha hx => ?_, noticeLaw_congr rfl rfl rfl⟩
  have spared : a.inSet set = false := Bool.eq_false_iff.mpr fun h => ha (hs a h)
  rw [clearAlarms_inSet, hx, spared]
  rfl

/-- A REPLY takes the entry that its record has found free (R193). -/
theorem pushNotice_keepsAlarms {n : Notice} (hf : 1 ≤ s.freeNotices) (hn : n.isAlert = false := by rfl) :
    s.KeepsAlarms cleared (s.pushNotice n) :=
  ⟨fun _ _ => id, fun h => h.pushNotice hf hn⟩

theorem offerNotice_keepsAlarms {n : Notice} (hn : n.isAlert = false := by rfl) : s.KeepsAlarms cleared (s.offerNotice n) := by
  unfold State.offerNotice
  split
  · next hf => exact pushNotice_keepsAlarms (le_trans (by decide) hf) hn
  · exact .raise_counted .refl .noticeLoss

theorem State.KeepsAlarms.offer (h : s.KeepsAlarms cleared t) {n : Notice} (hn : n.isAlert = false := by rfl) :
    s.KeepsAlarms cleared (t.offerNotice n) := h.trans (offerNotice_keepsAlarms hn)

theorem offers_keepsAlarms (ns : List Notice) (hn : ∀ n ∈ ns, n.isAlert = false) : s.KeepsAlarms cleared (ns.foldl State.offerNotice s) := by
  induction ns generalizing s with
  | nil => exact .refl
  | cons n ns ih =>
    rw [List.forall_mem_cons] at hn
    obtain ⟨hhead, htail⟩ := hn
    exact (offerNotice_keepsAlarms hhead).trans (ih htail)

theorem riseCsn_keepsAlarms (whole : Nat) : s.KeepsAlarms cleared (s.riseCsn whole) :=
  ⟨fun _ _ h => by rw [riseCsn_au]; exact h, riseCsn_noticeLaw whole⟩

/-- What follows an event may count an overrun, and leaves AU and RP elsewhere (R142). -/
theorem State.KeepsAlarms.settle (h : s.KeepsAlarms cleared t) : s.KeepsAlarms cleared t.settle := by
  refine h.trans ?_
  by_cases hc : t.endsCounted
  · obtain ⟨hau, hrp⟩ := (settle_follows t).counted hc
    exact countOverrun_keepsAlarms.trans (.of_blocks hau hrp)
  · obtain ⟨hau, hrp⟩ := (settle_follows t).uncounted hc
    exact .of_blocks hau hrp

/-! ## Occurrences -/

/-- A change of one entry is told by a notice. -/
theorem updateEntry_told_keepsAlarms (tag : Tag) (f : Entry → Entry) {n : Notice} (hn : n.isAlert = false := by rfl) :
    s.KeepsAlarms cleared ((s.updateEntry tag f).offerNotice n) :=
  .offer .of_blocks hn

theorem occurrenceEnds_keepsAlarms (tag : Tag) : s.KeepsAlarms cleared (s.occurrenceEnds tag) := by
  unfold State.occurrenceEnds
  split
  · exact .refl
  · split
    · rename_i e _ _
      have told : s.KeepsAlarms cleared ((s.removeEntry tag).offerNotice (e.reqEnd .done)) := .offer .of_blocks
      exact told.trans .of_blocks
    · exact .of_blocks

theorem commit_keepsAlarms (e : Entry) : s.KeepsAlarms cleared (s.commit e) := by
  unfold State.commit
  cases s.decide e with
  | grant | clip => exact updateEntry_told_keepsAlarms _ _
  | skipStrongerPeer | skipJoining => exact (updateEntry_told_keepsAlarms _ _).trans (occurrenceEnds_keepsAlarms _)

theorem commitLinks_keepsAlarms (tag : Tag) (n : Nat) : s.KeepsAlarms cleared (State.commitLinks tag n s) := by
  induction n generalizing s with
  | zero => exact .refl
  | succ n ih =>
    unfold State.commitLinks
    split
    · exact .refl
    · split
      · exact (commit_keepsAlarms _).trans ih
      · exact .refl

theorem commitWhileDue_keepsAlarms (tag : Tag) : s.KeepsAlarms cleared (s.commitWhileDue tag) := by
  unfold State.commitWhileDue
  split
  · exact .refl
  · exact commitLinks_keepsAlarms _ _

theorem endOccurrence_keepsAlarms (tag : Tag) : s.KeepsAlarms cleared (s.endOccurrence tag) :=
  (occurrenceEnds_keepsAlarms tag).trans (commitWhileDue_keepsAlarms tag)

theorem lateCommitted_keepsAlarms (e : Entry) (p : Placement) (a : Int) : s.KeepsAlarms cleared (s.lateCommitted e p a) := by
  unfold State.lateCommitted
  dsimp only
  split
  · exact updateEntry_told_keepsAlarms _ _
  · exact (updateEntry_told_keepsAlarms _ _).trans (endOccurrence_keepsAlarms _)

theorem lateActive_keepsAlarms (e : Entry) (p : Placement) (a : Int) : s.KeepsAlarms cleared (s.lateActive e p a) := by
  unfold State.lateActive
  dsimp only
  split
  · split
    · exact (updateEntry_told_keepsAlarms _ _).trans (endOccurrence_keepsAlarms _)
    · exact updateEntry_told_keepsAlarms _ _
  · exact .trans (.of_blocks (t := s.updateEntry _ _)) countLateOverlap_keepsAlarms

theorem lateTestOne_keepsAlarms (c : ClaimEntry) (tag : Tag) : s.KeepsAlarms cleared (State.lateTestOne c s tag) := by
  unfold State.lateTestOne
  split
  · exact .refl
  · split
    · exact .refl
    · split
      · exact .refl
      · split
        · exact lateCommitted_keepsAlarms _ _ _
        · exact lateActive_keepsAlarms _ _ _
        all_goals exact .refl

theorem lateTest_keepsAlarms (c : ClaimEntry) : s.KeepsAlarms cleared (s.lateTest c) := by
  unfold State.lateTest
  generalize s.bookOrder.map Entry.tag = tags
  induction tags generalizing s with
  | nil => exact .refl
  | cons tag tags ih => exact (lateTestOne_keepsAlarms c tag).trans ih

/-- An admission: the REPLY takes its entry, and the commits that follow are told (R16, R106). -/
theorem enterBook_keepsAlarms (q : Request) (clamped : List Nat) (hf : 1 ≤ s.freeNotices) :
    s.KeepsAlarms cleared (s.enterBook q clamped) := by
  have replied : s.KeepsAlarms cleared (s.reply kindSubmit (s.admitOutcome q clamped) .none q.tag clamped) := pushNotice_keepsAlarms hf
  unfold State.enterBook
  exact replied.trans (.trans .of_blocks (commitWhileDue_keepsAlarms q.tag))

theorem cancelEntry_keepsAlarms (e : Entry) : s.KeepsAlarms cleared (s.cancelEntry e) := by
  have told : s.KeepsAlarms cleared (s.offerNotice (e.reqEnd .cancelled)) := offerNotice_keepsAlarms
  unfold State.cancelEntry
  split <;> exact told.trans .of_blocks

/-! ## Frames -/

theorem evict_keepsAlarms (st : Station) : s.KeepsAlarms cleared (s.evict st) := by
  unfold State.evict
  split
  · exact .refl
  · split
    · exact .raise .of_blocks _
    · exact .refl

theorem putClaim_keepsAlarms (c : ClaimEntry) : s.KeepsAlarms cleared (s.putClaim c) := by
  unfold State.putClaim
  split
  · exact .of_blocks
  · exact (evict_keepsAlarms c.station).trans .of_blocks

theorem takeClaimFrame_keepsAlarms (st : Station) (b : ClaimBody) (latch : Time) : s.KeepsAlarms cleared (s.takeClaimFrame st b latch) := by
  unfold State.takeClaimFrame
  split
  · exact .refl
  · rename_i c _
    exact ((putClaim_keepsAlarms (s.withDeadlines c)).trans (lateTest_keepsAlarms (s.withDeadlines c))).trans .of_blocks

theorem viewCheck_keepsAlarms (st : Station) (b : BeaconBody) : s.KeepsAlarms cleared (s.viewCheck st b) := by
  unfold State.viewCheck
  repeat' split
  · exact .refl
  · exact .of_blocks
  · exact .of_blocks
  · exact raiseAlarm_keepsAlarms _

theorem takeBeacon_keepsAlarms (st : Station) (b : BeaconBody) (latch : Time) : s.KeepsAlarms cleared (s.takeBeacon st b latch) := by
  have sampled : s.KeepsAlarms cleared ((((s.hear st latch fun _ => beaconEpoch b).restartCheck st b).updatePeer st
    fun r => r.withFields b).offsetStep st b latch) := .of_blocks
  exact (sampled.trans (viewCheck_keepsAlarms st b)).trans .of_same

/-- The 64th good frame of a run clears LINE_NOISY, and no other flag (R160, R184). -/
theorem countGood_keepsAlarms (hn : cleared .lineNoisy) : s.KeepsAlarms cleared s.countGood := by
  have named : ∀ a : Alarm, a.inSet (Alarm.bit .lineNoisy) = true → cleared a := fun a ha => by
    rw [Alarm.inSet_bit, beq_iff_eq] at ha
    exact ha ▸ hn
  rcases Nat.lt_or_ge s.lc.goodRun 63 with h | h
  · rw [countGood_of_lt h]
    exact .of_same
  · rw [countGood_of_ge h]
    exact .clear .of_same named

theorem countBad_keepsAlarms : s.KeepsAlarms cleared s.countBad := by
  unfold State.countBad
  dsimp only
  split
  · exact .raise .of_same .lineNoisy
  · exact .of_same

theorem takeOwnNumber_keepsAlarms (hn : cleared .lineNoisy) : s.KeepsAlarms cleared s.takeOwnNumber :=
  .settle ((countClash_keepsAlarms.trans (countGood_keepsAlarms hn)).trans .of_blocks)

theorem takeFrame_keepsAlarms {st : Station} {handle : Time → State} (hn : cleared .lineNoisy)
    (handled : ∀ latch, s.KeepsAlarms cleared (handle latch)) : s.KeepsAlarms cleared (s.takeFrame st handle) := by
  rcases takeFrame_cases (s := s) st handle with e | e | ⟨latch, e⟩ <;> rw [e]
  · exact .refl
  · exact takeOwnNumber_keepsAlarms hn
  · exact .settle (((handled latch).trans (countGood_keepsAlarms hn)).trans .of_blocks)

theorem takeDriveFault_keepsAlarms : s.KeepsAlarms cleared s.takeDriveFault := by
  have stopped : s.KeepsAlarms cleared (if s.lc.contending.isSome then s.stopContending else s.abandonFrame) := by
    split <;> exact .of_blocks
  unfold State.takeDriveFault
  exact .settle (.raise (stopped.trans .of_same) _)

/-! ## The part as a whole -/

theorem switchProfile_keepsAlarms : s.KeepsAlarms cleared s.switchProfile := by
  unfold State.switchProfile
  split
  · exact .refl
  · exact .offer .of_same

theorem takeBoundary_keepsAlarms : s.KeepsAlarms cleared s.takeBoundary := by
  have asked : s.KeepsAlarms cleared s.closeEpoch.askBeacon.repeatClaims := .of_blocks (by simp [State.closeEpoch]) (by simp [State.closeEpoch])
  exact asked.trans switchProfile_keepsAlarms

theorem lineClear_keepsAlarms : s.KeepsAlarms cleared s.lineClear := by
  unfold State.lineClear
  dsimp only
  have told : ∀ (u : State) (origin : ClearOrigin), u.au = s.au → u.rp = s.rp →
      s.KeepsAlarms cleared (u.offerNotice (.lineCleared origin s.now)) := fun u _ hau hrp =>
    .offer (.of_blocks hau hrp)
  have awaited : ∀ (u : State) (f : LineController → LineController), s.KeepsAlarms cleared u → s.KeepsAlarms cleared (u.onLc f) :=
    fun _ _ hu => hu.trans .of_same
  split
  · exact awaited _ _ (told _ _ (by simp) (by simp))
  · exact told _ _ (by simp) (by simp)

theorem enterHalted_keepsAlarms : s.KeepsAlarms cleared s.enterHalted := by
  have lost : s.KeepsAlarms cleared s.clockLost :=
    .trans (.raise (t := s.onTb Timebase.halt) .of_same .clockLost) .of_same
  have ended := offers_keepsAlarms (cleared := cleared) (s := s.clockLost) (s.bookOrder.map fun e => e.reqEnd .halted)
    (List.forall_mem_map.mpr fun _ _ => rfl)
  obtain ⟨hau, hrp⟩ := enterHalted_offers (s := s)
  exact (lost.trans ended).trans (.of_blocks hau hrp)

/-- Of the verdicts on a window, no reference and a suspect clock raise a flag (R10). -/
theorem judgeWindow_keepsAlarms (v : Verdict) : s.KeepsAlarms cleared (s.judgeWindow v) := by
  have suspect : s.KeepsAlarms cleared s.enterSuspect := .raise .of_same .clockSuspect
  unfold State.judgeWindow
  split
  · exact enterHalted_keepsAlarms
  · split
    · exact .of_blocks
    · exact .of_same
  · exact suspect
  · exact .of_blocks
  all_goals exact .refl

/-! ## Records -/

/-- A record is handled with a free entry for its REPLY, or passed over (R193). -/
theorem takeRecord_keepsAlarms {whole : Nat} {handle : State → State}
    (handled : ∀ b : State, 1 ≤ b.freeNotices → b.KeepsAlarms cleared (handle b)) : s.KeepsAlarms cleared (s.takeRecord whole handle) := by
  unfold State.takeRecord
  dsimp only
  split
  · next hf => exact .settle ((riseCsn_keepsAlarms whole).trans (handled _ hf))
  · exact .settle (riseCsn_keepsAlarms whole)

theorem reply_keepsAlarms {kind : Byte} {outcome : ReplyOutcome} {reason : Reason} {tag : Tag} {clamped : List Nat}
    (hf : 1 ≤ s.freeNotices) : s.KeepsAlarms cleared (s.reply kind outcome reason tag clamped) := pushNotice_keepsAlarms hf

theorem accept_keepsAlarms (kind : Byte) (clamped : List Nat) (hf : 1 ≤ s.freeNotices) :
    s.KeepsAlarms cleared (s.accept kind clamped) := reply_keepsAlarms hf

/-- A REPLY, and an offer of a report. -/
theorem accept_offer_keepsAlarms (kind : Byte) {n : Notice} (hf : 1 ≤ s.freeNotices) (hn : n.isAlert = false := by rfl) :
    s.KeepsAlarms cleared ((s.accept kind []).offerNotice n) := (reply_keepsAlarms hf).trans (offerNotice_keepsAlarms hn)

theorem accept_offer_nextFree_keepsAlarms (kind : Byte) {n : Notice} (hf : 1 ≤ s.freeNotices) (hn : n.isAlert = false := by rfl) :
    s.KeepsAlarms cleared ((s.accept kind []).offerNotice n).nextFree := (accept_offer_keepsAlarms kind hf hn).trans .of_blocks

theorem handleSetup_keepsAlarms (act rq : Bool) (r : SetupRecord) (hf : 1 ≤ s.freeNotices) :
    s.KeepsAlarms cleared (s.handleSetup act rq r) := by
  rcases handleSetup_cases (s := s) act rq r with ⟨-, _, e⟩ | ⟨-, e⟩ <;> rw [e]
  · exact reply_keepsAlarms hf
  · have accepted : s.KeepsAlarms cleared (s.accept kindSetup (takeSetup r).clamped) := reply_keepsAlarms hf
    exact accepted.trans (.of_same (by simp) (by simp) (by simp) (by simp))

/-- The REPLY, and the clear of CLEAR_UNACKED (R165, R184). -/
theorem handleClearAck_keepsAlarms (hf : 1 ≤ s.freeNotices) : s.KeepsAlarms (· = .clearUnacked) s.handleClearAck := by
  have accepted : s.KeepsAlarms (· = .clearUnacked) (s.accept kindClearAck []) := reply_keepsAlarms hf
  rcases handleClearAck_cases (s := s) with e | e | e <;> rw [e]
  · exact reply_keepsAlarms hf
  · exact accepted
  · refine .clear (accepted.trans .of_same) fun a ha => ?_
    rwa [Alarm.inSet_bit, beq_iff_eq] at ha

/-- The REPLY, and the clear of the flags named but CLEAR_UNACKED (R182). -/
theorem handleAlarmClear_keepsAlarms (flags : BitVec 16) (hf : 1 ≤ s.freeNotices) :
    s.KeepsAlarms (fun a => a.inSet (flagSetOf flags) = true ∧ a ≠ .clearUnacked) (s.handleAlarmClear flags) := by
  rcases handleAlarmClear_cases (s := s) flags with e | e <;> rw [e]
  · exact reply_keepsAlarms hf
  · refine .clear (reply_keepsAlarms hf) fun a ha => ?_
    simp only [AlarmUnit.inSet_clearable, Bool.and_eq_true, bne_iff_ne] at ha
    obtain ⟨⟨⟨named, other⟩, -⟩, -⟩ := ha
    exact ⟨named, other⟩

end Sys2Proof.Machine
end

section
/-! O5 and O55: what every command clears of the flags, and keeps of the notice queue. -/

namespace Sys2Proof.Machine

open Sys2Proof

variable {s t : State} {cleared : Alarm → Prop}

/-- The commands that are the end of a good frame received, a clash among them (R160, R161). -/
def goodFrame (c : Instr) : Prop :=
  c = .ownNumberFrame ∨ (∃ st b, c = .beaconReceived st b) ∨ (∃ st short b, c = .claimReceived st short b) ∨
    ∃ st tag, c = .withdrawReceived st tag

/-- The flags a command may clear: all at the release of the reset pin, those an ALARM_CLEAR names but CLEAR_UNACKED, CLEAR_UNACKED at a
CLEAR_ACK, and LINE_NOISY at a good frame (R180, R182, R184). -/
def clearedBy (c : Instr) (a : Alarm) : Prop :=
  (∃ sa, c = .resetRelease sa) ∨
  (∃ whole flags, c = .alarmClear whole flags ∧ a.inSet (flagSetOf flags) = true ∧ a ≠ .clearUnacked) ∨
  (∃ whole, c = .clearAck whole ∧ a = .clearUnacked) ∨
  a = .lineNoisy ∧ goodFrame c

theorem clearedBy_goodFrame {c : Instr} (h : goodFrame c) : clearedBy c .lineNoisy := .inr (.inr (.inr ⟨rfl, h⟩))

/-- What keeps all flags but some keeps all but more. -/
theorem State.KeepsAlarms.mono {p q : Alarm → Prop} (hpq : ∀ a, p a → q a) (h : s.KeepsAlarms p t) : s.KeepsAlarms q t :=
  ⟨fun a ha => h.flags a fun hp => ha (hpq a hp), h.notices⟩

/-- After the release the queue is empty, and all flags are cleared (R13). -/
theorem releaseReset_keepsAlarms (sa : Station) : s.KeepsAlarms (clearedBy (.resetRelease sa)) (s.releaseReset sa) :=
  ⟨fun _ ha => absurd (.inl ⟨sa, rfl⟩) ha, fun _ => ⟨Nat.zero_le _, rfl, rfl⟩⟩

/-- The fall of CSn changes the new-raise mark of AU at the most (R186). -/
theorem fallCsn_keepsAlarms : s.KeepsAlarms cleared s.fallCsn := by
  refine ⟨fun a _ ha => ?_, fallCsn_noticeLaw⟩
  unfold State.fallCsn
  split
  · exact ha
  · split <;> exact ha

/-- The end of a stretch makes a condition absent at the most, and its flag stays (R166, R181). -/
theorem endStretch_keepsAlarms : s.KeepsAlarms cleared s.endStretch := by
  unfold State.endStretch
  split <;> exact .of_same

/-- Every command clears the flags it may clear at the most, and keeps the law of the notice queue. -/
theorem exec_keepsAlarms {c : Instr} (h : exec c s = .next t) : s.KeepsAlarms (clearedBy c) t := by
  have comes : ∀ {enabled effect}, occurs enabled effect s = .next t → s.KeepsAlarms (clearedBy c) (effect s) → s.KeepsAlarms (clearedBy c) t :=
    fun h comes => occurs_keeps .refl (fun _ => comes) h
  cases c with
  | resetAssert | fbChangeDuringReset | clearDriveEnd => exact comes h .of_same
  | resetRelease sa => exact comes h (releaseReset_keepsAlarms sa)
  | microsecondAdvance => exact comes h (.settle (.of_blocks (by simp) (by simp)))
  | monitorWindowClose edges =>
    have closed : s.KeepsAlarms (clearedBy (.monitorWindowClose edges)) (s.onTb (Timebase.closeWindow edges)) := .of_blocks
    exact comes h (.settle (closed.trans (judgeWindow_keepsAlarms _)))
  | epochBoundary =>
    unfold exec execEpochBoundary at h
    exact comes h (.settle takeBoundary_keepsAlarms)
  | commitPoint =>
    refine comes h ?_
    rcases takeCommitPoint_cases (s := s) with e | ⟨_, -, e⟩ <;> rw [e]
    · exact .refl
    · exact .settle (commitWhileDue_keepsAlarms _)
  | placedStart tag =>
    refine comes h ?_
    rcases takePlacedStart_cases (s := s) tag with e | ⟨_, -, e⟩ <;> rw [e]
    · exact .refl
    · exact .settle .of_blocks
  | placedEnd tag =>
    refine comes h ?_
    rcases takePlacedEnd_cases (s := s) tag with e | ⟨_, -, e⟩ <;> rw [e]
    · exact .refl
    · exact .settle (endOccurrence_keepsAlarms _)
  | actLevelTaken | joiningEnd | rqRise | rqFall | fastEnd => exact comes h (.settle .of_same)
  | countDeadline =>
    have counted : s.KeepsAlarms (clearedBy .countDeadline) (s.onAm fun m => { m with overrun := .counted, countDeadline := none }) := .of_same
    exact comes h (.settle (counted.trans countOverrun_keepsAlarms))
  | quietDeadline st =>
    refine comes h ?_
    rcases takeQuietDeadline_cases (s := s) st with e | e <;> rw [e]
    · exact .refl
    · exact .settle .of_blocks
  | lostDeadline st =>
    refine comes h ?_
    rcases takeLostDeadline_cases (s := s) st with e | e <;> rw [e]
    · exact .refl
    · exact .settle .of_blocks
  | leaseDeadline st tag =>
    refine comes h ?_
    rcases takeLeaseDeadline_cases (s := s) st tag with e | e <;> rw [e]
    · exact .refl
    · exact .of_blocks
  | expiryPoint st tag =>
    refine comes h ?_
    rcases takeExpiryPoint_cases (s := s) st tag with e | e <;> rw [e]
    · exact .refl
    · exact .of_blocks
  | acknowledgeDeadline => exact comes h (.settle (.raise .of_same _))
  | lineIdle | startMark | arbitrationLost | readbackMismatch | ownStartMarkReported => exact comes h .of_blocks
  | frameSent =>
    refine comes h ?_
    rcases takeFrameSent_cases (s := s) with ⟨-, e⟩ | ⟨_, _, -, e⟩ <;> rw [e]
    · exact .refl
    · exact .of_blocks
  | driveFault => exact comes h takeDriveFault_keepsAlarms
  | beaconReceived st b =>
    unfold exec execBeaconReceived at h
    exact comes h (takeFrame_keepsAlarms (clearedBy_goodFrame (.inr (.inl ⟨_, _, rfl⟩))) fun latch => takeBeacon_keepsAlarms st b latch)
  | claimReceived st short b =>
    have heard : ∀ latch, s.KeepsAlarms (clearedBy (.claimReceived st short b)) (s.hear st latch s.timeoutEpoch) := fun _ => .of_blocks
    exact comes h (takeFrame_keepsAlarms (clearedBy_goodFrame (.inr (.inr (.inl ⟨_, _, _, rfl⟩)))) fun latch =>
      (heard latch).trans (takeClaimFrame_keepsAlarms st b latch))
  | withdrawReceived st tag =>
    exact comes h (takeFrame_keepsAlarms (clearedBy_goodFrame (.inr (.inr (.inr ⟨_, _, rfl⟩)))) fun _ => .of_blocks)
  | ownNumberFrame => exact comes h (takeOwnNumber_keepsAlarms (clearedBy_goodFrame (.inl rfl)))
  | badFrame line cause =>
    unfold exec execBadFrame at h
    have followed : s.KeepsAlarms (clearedBy (.badFrame line cause)) (s.followLine line) := .of_blocks
    exact comes h (.settle ((followed.trans countBad_keepsAlarms).trans .of_blocks))
  | lineClearDetected =>
    unfold exec execLineClearDetected at h
    exact comes h (.settle lineClear_keepsAlarms)
  | lineStuckDetected => exact comes h (.settle (.raise_counted .refl _))
  | dominantStretchEnd => exact comes h endStretch_keepsAlarms
  | csnFall => exact comes h fallCsn_keepsAlarms
  | transactionEnd whole r =>
    refine comes h (takeRecord_keepsAlarms fun b hf => ?_)
    rcases answerPort_cases (s := b) r with e | ⟨_, _, e⟩ <;> rw [e]
    · exact .refl
    · exact reply_keepsAlarms hf
  | setup _ act rq r => exact comes h (takeRecord_keepsAlarms fun _ hf => handleSetup_keepsAlarms act rq r hf)
  | submit _ r =>
    refine comes h (takeRecord_keepsAlarms fun b hf => ?_)
    rcases handleSubmit_cases (s := b) r with ⟨_, e⟩ | ⟨-, e⟩ <;> rw [e]
    · exact reply_keepsAlarms hf
    · exact enterBook_keepsAlarms _ _ hf
  | cancel _ tag =>
    refine comes h (takeRecord_keepsAlarms fun b hf => ?_)
    rcases handleCancel_cases (s := b) tag with ⟨_, e⟩ | ⟨-, x, -, -, e⟩ <;> rw [e]
    · exact reply_keepsAlarms hf
    · exact (reply_keepsAlarms hf).trans (cancelEntry_keepsAlarms x)
  | profileSelect _ code =>
    refine comes h (takeRecord_keepsAlarms fun b hf => ?_)
    rcases handleProfileSelect_cases (s := b) code with ⟨_, e⟩ | ⟨-, e⟩ <;> rw [e]
    · exact reply_keepsAlarms hf
    · exact (accept_keepsAlarms _ _ hf).trans .of_same
  | fastSpan _ r =>
    refine comes h (takeRecord_keepsAlarms fun b hf => ?_)
    rcases handleFastSpan_cases (s := b) r with ⟨_, e⟩ | ⟨-, e⟩ <;> rw [e]
    · exact reply_keepsAlarms hf
    · exact (accept_keepsAlarms _ _ hf).trans .of_same
  | clearLine _ =>
    refine comes h (takeRecord_keepsAlarms fun b hf => ?_)
    rcases handleClearLine_cases (s := b) with ⟨_, e⟩ | ⟨-, e⟩ <;> rw [e]
    · exact reply_keepsAlarms hf
    · exact (accept_keepsAlarms _ _ hf).trans .of_same
  | clearAck whole =>
    exact comes h (takeRecord_keepsAlarms fun _ hf =>
      (handleClearAck_keepsAlarms hf).mono fun _ ha => .inr (.inr (.inl ⟨whole, rfl, ha⟩)))
  | alarmClear whole flags =>
    exact comes h (takeRecord_keepsAlarms fun _ hf =>
      (handleAlarmClear_keepsAlarms flags hf).mono fun _ ha => .inr (.inl ⟨whole, flags, rfl, ha⟩))
  | meterRead _ =>
    refine comes h (takeRecord_keepsAlarms fun b hf => ?_)
    rcases handleMeterRead_cases (s := b) with ⟨_, e⟩ | ⟨-, e⟩ <;> rw [e]
    · exact reply_keepsAlarms hf
    · exact accept_offer_keepsAlarms _ hf
  | statusRead _ => exact comes h (takeRecord_keepsAlarms fun b hf => accept_offer_nextFree_keepsAlarms _ hf)
  | timeRead _ =>
    refine comes h (takeRecord_keepsAlarms fun b hf => ?_)
    rcases handleTimeRead_cases (s := b) with e | e <;> rw [e]
    · exact reply_keepsAlarms hf
    · exact accept_offer_nextFree_keepsAlarms _ hf

/-- Settles O5: a flag that a command may not clear still stands after it. -/
theorem flagsStay : Obligations.FlagsStay := by
  intro c s t a h hset hclear
  by_contra spared
  have stands := (exec_keepsAlarms h).flags a spared hset
  rw [hclear] at stands
  cases stands

/-- Settles O55: every command keeps the law, and the queue of commands is no part of it. -/
theorem noticeLawKept : Obligations.NoticeLawKept := by
  intro s t h law
  unfold step at h
  split at h
  · cases h
    exact law
  · rename_i rest _
    exact (exec_keepsAlarms h).notices (noticeLaw_congr (s := s) rfl rfl rfl law)

end Sys2Proof.Machine
end

section
/-! SUPPORT. Every CSn rise hands its record to one handler, and the removal step leaves the part state (R193, R197). -/

namespace Sys2Proof.Machine

open Sys2Proof

variable {s b : State} {c : Instr} {whole : Nat}

/-- What a CSn rise does with its record once the removal step has left a free entry (R193). -/
def handlingOf : Instr → State → State
  | .transactionEnd _ r => State.answerPort r
  | .setup _ act rq r => State.handleSetup act rq r
  | .submit _ r => State.handleSubmit r
  | .cancel _ tag => State.handleCancel tag
  | .profileSelect _ code => State.handleProfileSelect code
  | .fastSpan _ r => State.handleFastSpan r
  | .clearLine _ => State.handleClearLine
  | .clearAck _ => State.handleClearAck
  | .alarmClear _ flags => State.handleAlarmClear flags
  | .meterRead _ => State.handleMeterRead
  | .statusRead _ => State.handleStatusRead
  | .timeRead _ => State.handleTimeRead
  | _ => id

/-- A command that is a CSn rise is its removal step and the handling of its record, while RSTn is high (R193). -/
theorem exec_rise (h : c.risesWith = some whole) (s : State) :
    exec c s = occurs (!s.pins.rstLow) (State.takeRecord whole (handlingOf c)) s := by
  cases c with
  | transactionEnd | setup | submit | cancel | profileSelect | fastSpan | clearLine | clearAck | alarmClear | meterRead | statusRead
  | timeRead =>
    cases h
    rfl
  | _ => cases h

theorem exec_rise_of_high (h : c.risesWith = some whole) (hl : s.pins.rstLow = false) :
    exec c s = .next (s.takeRecord whole (handlingOf c)) := by
  rw [exec_rise h, occurs_of_enabled (by rw [hl]; rfl)]

/-- A CSn rise that finds a free entry answers the handling of its record, and what follows every event (R193). -/
theorem exec_rise_taken {u : State} (h : c.risesWith = some whole) (hl : s.pins.rstLow = false) (hb : s.riseCsn whole = b)
    (hf : 1 ≤ b.freeNotices) (hu : handlingOf c b = u) : ∃ t, exec c s = .next t ∧ u.Follows t :=
  ⟨_, exec_rise_of_high h hl, takeRecord_taken hb hf hu⟩

theorem riseCsn_part (whole : Nat) (s : State) : (s.riseCsn whole).part = s.part := part_congr (by simp) (by simp)

end Sys2Proof.Machine
end

section
/-! O10: the port's own refusals, the record passed over, and the rise that finds CSn high. -/

namespace Sys2Proof.Machine

open Sys2Proof

variable {s : State}

/-- The fall of CSn begins a transaction (R192). -/
theorem fallCsn_transaction (s : State) : s.fallCsn.rp.transaction.isSome = true := by
  unfold State.fallCsn
  split
  · rfl
  · split <;> rfl

/-- The removal step of a rise that finds CSn high is that of the rise after a fall (notes/assumptions/13). -/
theorem riseCsn_fallCsn (whole : Nat) (ht : s.rp.transaction = none) : s.fallCsn.riseCsn whole = s.riseCsn whole := by
  simp only [State.riseCsn, fallCsn_transaction, ht, Option.isSome_none, if_true, Bool.false_eq_true, if_false]

/-- Settles O10: the record of a rise is handled by one function, which refuses it, is not reached, or is reached after the same removal
step. -/
theorem portAnswers : Obligations.PortAnswers := by
  refine ⟨fun whole kind s b hl hb hf => ⟨?unknown, ?length⟩, fun c whole s b hc hl hb hf => ?passed, fun c whole s hc hl ht => ?high⟩
  case unknown => exact exec_rise_taken rfl hl hb hf rfl
  case length => exact exec_rise_taken rfl hl hb hf rfl
  case passed => exact ⟨_, exec_rise_of_high hc hl, takeRecord_passed hb hf⟩
  case high =>
    have fallen : s.fallCsn.pins.rstLow = false := by simpa using hl
    rw [exec_rise_of_high hc hl, exec_rise_of_high hc fallen, State.takeRecord, State.takeRecord, riseCsn_fallCsn whole ht]

end Sys2Proof.Machine
end

section
/-! O11: the records that the part state refuses. -/

namespace Sys2Proof.Machine

open Sys2Proof

variable {s : State} {c : Instr} {kind : Byte}

theorem halted_of_part (h : s.part = .halted) : s.halted = true := by
  unfold State.part at h
  split at h
  · assumption
  · split at h <;> cases h

theorem notTaken_of_halted (h : s.part = .halted) : s.notTaken = some .halted := by rw [State.notTaken, h]

theorem notTaken_of_unset (h : s.part = .unset) : s.notTaken = some .notSet := by rw [State.notTaken, h]

/-- A part state other than JOINING and RUNNING refuses the records that are taken in those alone (R197). -/
theorem handlingOf_notTaken {reason : Reason} (h : s.notTaken = some reason) (hc : c.recordKind = some kind)
    (hk : kind ∈ [2, 3, 4, 5, 6, 9]) : handlingOf c s = s.refuse kind reason c.replyTag := by
  have refused : ∀ kind tag handle, s.whenJoined kind tag handle = s.refuse kind reason tag := fun kind tag handle => by
    simp only [State.whenJoined, h]
  cases c with
  | submit | cancel | profileSelect | fastSpan | clearLine | meterRead =>
    cases hc
    apply refused
  | setup | clearAck | alarmClear | statusRead | timeRead =>
    cases hc
    exact absurd hk (by decide)
  | _ => cases hc

/-- HALTED refuses every record but STATUS_READ (R197). -/
theorem handlingOf_halted (hp : s.part = .halted) (hc : c.recordKind = some kind) (hk : kind ≠ 10) :
    handlingOf c s = s.refuse kind .halted c.replyTag := by
  cases c with
  | setup =>
    cases hc
    simp only [handlingOf, State.handleSetup, hp]
    rfl
  | submit | cancel | profileSelect | fastSpan | clearLine | meterRead =>
    refine handlingOf_notTaken (notTaken_of_halted hp) hc ?_
    cases hc
    decide
  | clearAck | alarmClear | timeRead =>
    cases hc
    exact if_pos (halted_of_part hp)
  | statusRead =>
    cases hc
    exact absurd rfl hk
  | _ => cases hc

/-- JOINING and RUNNING refuse a SETUP (R197). -/
theorem handlingOf_setup_joined (hj : s.joined = true) (hc : c.recordKind = some 1) :
    handlingOf c s = s.refuse 1 .alreadySet c.replyTag := by
  cases c with
  | setup =>
    cases hp : s.part with
    | joining | running =>
      simp only [handlingOf, State.handleSetup, hp]
      rfl
    | unset | halted => simp [State.joined, hp] at hj
  | submit | cancel | profileSelect | fastSpan | clearLine | clearAck | alarmClear | meterRead | statusRead | timeRead =>
    exact absurd hc (by simp [Instr.recordKind, recordBytes, framed])
  | _ => cases hc

/-- Settles O11: each part state refuses its records, and the removal step leaves the part state. -/
theorem recordsRefused : Obligations.RecordsRefused := by
  intro c whole kind reason s b hc hk hl hb hf hrefused
  refine exec_rise_taken hc hl hb hf ?_
  subst hb
  rcases hrefused with ⟨hp, hkind, rfl⟩ | ⟨hp, hkind, rfl⟩ | ⟨hj, rfl, rfl⟩
  · exact handlingOf_halted ((riseCsn_part whole s).trans hp) hk hkind
  · exact handlingOf_notTaken (notTaken_of_unset ((riseCsn_part whole s).trans hp)) hk hkind
  · exact handlingOf_setup_joined ((riseCsn_joined whole s).trans hj) hk

end Sys2Proof.Machine
end

section
/-! O2: every command answers a next state, and leaves the commands that wait. -/

namespace Sys2Proof.Machine

open Sys2Proof

variable {s t : State} {c : Instr}

/-- The handling of a record leaves the commands that wait. -/
theorem handlingOf_pending (c : Instr) (s : State) : (handlingOf c s).pending = s.pending := by
  cases c with
  | transactionEnd _ r => rcases answerPort_cases (s := s) r with e | ⟨_, _, e⟩ <;> simp [handlingOf, e]
  | setup _ act rq r => rcases handleSetup_cases (s := s) act rq r with ⟨-, _, e⟩ | ⟨-, e⟩ <;> simp [handlingOf, e]
  | submit _ r => rcases handleSubmit_cases (s := s) r with ⟨_, e⟩ | ⟨-, e⟩ <;> simp [handlingOf, e]
  | cancel _ tag => rcases handleCancel_cases (s := s) tag with ⟨_, e⟩ | ⟨-, _, -, -, e⟩ <;> simp [handlingOf, e]
  | profileSelect _ code => rcases handleProfileSelect_cases (s := s) code with ⟨_, e⟩ | ⟨-, e⟩ <;> simp [handlingOf, e]
  | fastSpan _ r => rcases handleFastSpan_cases (s := s) r with ⟨_, e⟩ | ⟨-, e⟩ <;> simp [handlingOf, e]
  | clearLine => rcases handleClearLine_cases (s := s) with ⟨_, e⟩ | ⟨-, e⟩ <;> simp [handlingOf, e]
  | clearAck => rcases handleClearAck_cases (s := s) with e | e | e <;> simp [handlingOf, e]
  | alarmClear _ flags => rcases handleAlarmClear_cases (s := s) flags with e | e <;> simp [handlingOf, e]
  | meterRead => rcases handleMeterRead_cases (s := s) with ⟨_, e⟩ | ⟨-, e⟩ <;> simp [handlingOf, e]
  | statusRead => simp [handlingOf, State.handleStatusRead]
  | timeRead => rcases handleTimeRead_cases (s := s) with e | e <;> simp [handlingOf, e]
  | _ => rfl

theorem takeRecord_pending (whole : Nat) {handle : State → State} (h : ∀ b : State, (handle b).pending = b.pending) (s : State) :
    (s.takeRecord whole handle).pending = s.pending := by
  rcases takeRecord_cases (s := s) whole handle with e | e <;> simp [e, h]

theorem takeFrame_pending (st : Station) {handle : Time → State} (h : ∀ latch, (handle latch).pending = s.pending) :
    (s.takeFrame st handle).pending = s.pending := by
  rcases takeFrame_cases (s := s) st handle with e | e | ⟨latch, e⟩ <;> simp [e, h, State.takeOwnNumber]

theorem judgeWindow_pending (v : Verdict) (s : State) : (s.judgeWindow v).pending = s.pending := by
  unfold State.judgeWindow
  repeat' split
  all_goals simp [State.enterSuspect, State.leaveSuspect]

theorem endStretch_pending (s : State) : s.endStretch.pending = s.pending := by
  unfold State.endStretch
  split <;> rfl

theorem takeDriveFault_pending (s : State) : s.takeDriveFault.pending = s.pending := by
  unfold State.takeDriveFault
  split <;> simp

/-- Every command leaves the commands that wait. -/
theorem exec_pending (h : exec c s = .next t) : t.pending = s.pending := by
  have comes : ∀ {enabled effect}, occurs enabled effect s = .next t → (effect s).pending = s.pending → t.pending = s.pending :=
    fun h comes => occurs_keeps (R := fun s t => t.pending = s.pending) rfl (fun _ => comes) h
  cases hr : c.risesWith with
  | some whole =>
    rw [exec_rise hr] at h
    exact comes h (takeRecord_pending whole (handlingOf_pending c) s)
  | none =>
    cases c with
    | transactionEnd | setup | submit | cancel | profileSelect | fastSpan | clearLine | clearAck | alarmClear | meterRead | statusRead
    | timeRead => cases hr
    | resetAssert | resetRelease | fbChangeDuringReset => exact comes h rfl
    | microsecondAdvance => exact comes h (by simp [State.advance])
    | monitorWindowClose => exact comes h (by simp [State.closeWindow, judgeWindow_pending])
    | epochBoundary =>
      unfold exec execEpochBoundary at h
      exact comes h (by simp)
    | commitPoint =>
      refine comes h ?_
      rcases takeCommitPoint_cases (s := s) with e | ⟨_, -, e⟩ <;> simp [e]
    | placedStart tag =>
      refine comes h ?_
      rcases takePlacedStart_cases (s := s) tag with e | ⟨_, -, e⟩ <;> simp [e]
    | placedEnd tag =>
      refine comes h ?_
      rcases takePlacedEnd_cases (s := s) tag with e | ⟨_, -, e⟩ <;> simp [e]
    | actLevelTaken => exact comes h (by simp [State.takeActLevel])
    | countDeadline => exact comes h (by simp [State.takeCountDeadline])
    | rqRise => exact comes h (by simp [State.takeRqRise])
    | rqFall => exact comes h (by simp [State.takeRqFall])
    | fastEnd => exact comes h (by simp [State.takeFastEnd])
    | quietDeadline st =>
      refine comes h ?_
      rcases takeQuietDeadline_cases (s := s) st with e | e <;> simp [e]
    | lostDeadline st =>
      refine comes h ?_
      rcases takeLostDeadline_cases (s := s) st with e | e <;> simp [e]
    | leaseDeadline st tag =>
      refine comes h ?_
      rcases takeLeaseDeadline_cases (s := s) st tag with e | e <;> simp [e]
    | expiryPoint st tag =>
      refine comes h ?_
      rcases takeExpiryPoint_cases (s := s) st tag with e | e <;> simp [e]
    | joiningEnd => exact comes h (by simp [State.endJoining])
    | acknowledgeDeadline => exact comes h (by simp [State.takeAcknowledgeDeadline])
    | lineIdle | startMark | arbitrationLost | ownStartMarkReported | readbackMismatch | csnFall => exact comes h (by simp)
    | frameSent =>
      refine comes h ?_
      rcases takeFrameSent_cases (s := s) with ⟨-, e⟩ | ⟨_, _, -, e⟩ <;> simp [e]
    | driveFault => exact comes h (takeDriveFault_pending s)
    | beaconReceived =>
      unfold exec execBeaconReceived at h
      exact comes h (takeFrame_pending _ (by simp))
    | claimReceived | withdrawReceived => exact comes h (takeFrame_pending _ (by simp))
    | ownNumberFrame => exact comes h (by simp [State.takeOwnNumber])
    | badFrame =>
      unfold exec execBadFrame at h
      exact comes h (by simp)
    | lineClearDetected =>
      unfold exec execLineClearDetected at h
      exact comes h (by simp)
    | lineStuckDetected => exact comes h (by simp [State.takeLineStuck])
    | dominantStretchEnd => exact comes h (endStretch_pending s)
    | clearDriveEnd => exact comes h rfl

/-- Every meaning is one of `occurs`, which answers a next state. -/
theorem exec_answers (c : Instr) (s : State) : ∃ t, exec c s = .next t := by cases c <;> exact ⟨_, rfl⟩

/-- Settles O2: every command answers, and the answer keeps the commands that wait. -/
theorem everyCommandAnswers : Obligations.EveryCommandAnswers := by
  intro c s
  obtain ⟨t, h⟩ := exec_answers c s
  exact ⟨t, h, exec_pending h⟩

end Sys2Proof.Machine
end

section
/-! SUPPORT. Values as bytes, most significant byte first, and what is read back from them (R202, R203). -/

namespace Sys2Proof

@[simp] theorem length_valueBytes (n v : Nat) : (valueBytes n v).length = n := by
  induction n with
  | zero => rfl
  | succ n ih => simp [valueBytes, ih]

/-- Byte i of n is the value without its n − 1 − i last bytes. -/
theorem valueBytes_eq_map (n v : Nat) : valueBytes n v = (List.range n).map fun i => BitVec.ofNat 8 (v / 256 ^ (n - 1 - i)) := by
  induction n with
  | zero => rfl
  | succ n ih =>
    rw [valueBytes, ih, List.range_succ_eq_map, List.map_cons, List.map_map]
    refine congrArg₂ List.cons (by simp) (List.map_congr_left fun i _ => ?_)
    simp [Nat.sub_sub, Nat.add_comm]

/-- The bytes of a value rest on the value modulo their range alone. -/
theorem valueBytes_mod (n k v : Nat) (h : n ≤ k) : valueBytes n (v % 256 ^ k) = valueBytes n v := by
  induction n with
  | zero => rfl
  | succ n ih =>
    rw [valueBytes, valueBytes, ih (by omega)]
    refine congrArg (· :: _) (BitVec.eq_of_toNat_eq ?_)
    obtain ⟨d, rfl⟩ := Nat.exists_eq_add_of_le h
    rw [BitVec.toNat_ofNat, BitVec.toNat_ofNat, show n + 1 + d = n + (1 + d) by omega, Nat.pow_add, Nat.mod_mul_right_div_self,
      Nat.pow_add, Nat.mod_mul_right_mod]

/-- What is read most significant byte first from bytes is the value they were written from (section 12.7). -/
theorem foldl_valueBytes (n v start : Nat) :
    (valueBytes n v).foldl (fun u b => u * 256 + b.toNat) start = start * 256 ^ n + v % 256 ^ n := by
  induction n generalizing start with
  | zero => simp [valueBytes, Nat.mod_one]
  | succ n ih =>
    rw [valueBytes, List.foldl_cons, ih, BitVec.toNat_ofNat, Nat.pow_succ (n := 256), Nat.mod_mul]
    ring

/-! ## Fields of a body -/

variable {w n i : Nat}

/-- A value of whole bytes is read back from its bytes. -/
theorem wordAt_first (v : BitVec w) (hw : w = 8 * n) (rest : List Byte) : wordAt (valueBytes n v.toNat ++ rest) 0 n w = v := by
  rw [wordAt, valueAt, List.drop_zero, List.take_left' (length_valueBytes _ _), foldl_valueBytes, Nat.zero_mul, Nat.zero_add,
    show 256 ^ n = 2 ^ w by rw [hw, Nat.pow_mul], Nat.mod_eq_of_lt v.isLt, BitVec.ofNat_toNat, BitVec.setWidth_eq]

/-- A field beyond some bytes is read from the bytes after them. -/
theorem wordAt_beyond (before rest : List Byte) (h : before.length ≤ i) :
    wordAt (before ++ rest) i n w = wordAt rest (i - before.length) n w := by
  rw [wordAt, wordAt, valueAt, valueAt, List.drop_append, List.drop_eq_nil_of_le h, List.nil_append]

/-- Bytes beyond a field change nothing of it. -/
theorem wordAt_within (body rest : List Byte) (h : i + n ≤ body.length) : wordAt (body ++ rest) i n w = wordAt body i n w := by
  rw [wordAt, wordAt, valueAt, valueAt, List.drop_append_of_le_length (by omega), List.take_append_of_le_length (by simp; omega)]

@[simp] theorem byteAt_first (b : Byte) (rest : List Byte) : byteAt (b :: rest) 0 = b := by
  simp [byteAt, wordAt, valueAt]

end Sys2Proof

namespace Sys2Proof.Machine

open Sys2Proof

/-- The bytes of a word are those of its value. -/
theorem bytesOf_eq_valueBytes {w : Nat} (n : Nat) (v : BitVec w) : bytesOf n v = valueBytes n v.toNat := by
  induction n with
  | zero => rfl
  | succ n ih =>
    rw [bytesOf, valueBytes, ih]
    refine congrArg (· :: _) (BitVec.eq_of_toNat_eq ?_)
    simp [Nat.shiftRight_eq_div_pow, Nat.pow_mul]

theorem natBytes_eq_valueBytes (n v : Nat) : natBytes n v = valueBytes n v := by
  rw [natBytes, bytesOf_eq_valueBytes, BitVec.toNat_ofNat, Nat.pow_mul]
  exact valueBytes_mod n n v le_rfl

theorem intBytes_two (v : Int) : intBytes 2 v = valueBytes 2 (v % 65536).toNat := by
  rw [intBytes, bytesOf_eq_valueBytes, BitVec.toNat_ofInt]
  rfl

end Sys2Proof.Machine
end

section
/-! O53: the bytes of every notice, and the bits of MISO (R192, R203). -/

namespace Sys2Proof.Machine

open Sys2Proof

/-! ## Codes -/

theorem ReplyOutcome.code_eq (o : ReplyOutcome) :
    o.code = BitVec.ofNat 8 ([ReplyOutcome.accepted, .clamped, .demoted, .refused].idxOf o) := by cases o <;> rfl

theorem Reason.code_eq (r : Reason) : r.code = BitVec.ofNat 8 ([Reason.none, .notSet, .alreadySet, .badLength, .unknownKind, .bookFull,
    .tagBusy, .unknownTag, .horizon, .badPeriod, .badSpan, .clearPending, .halted].idxOf r) := by cases r <;> rfl

theorem PartState.code_eq (p : PartState) : p.code = BitVec.ofNat 8 ([PartState.unset, .joining, .running, .halted].idxOf p) := by
  cases p <;> rfl

theorem profileCode_eq (p : Option ProfileName) : profileCode p = if p = some .a then 0 else if p = some .b then 1 else 255 := by
  cases p with
  | none => rfl
  | some name => cases name <;> rfl

theorem CommitOutcome.codes_eq (o : CommitOutcome) : o.codes =
    if o = .grant then [0, 0] else if o = .clip then [1, 0] else if o = .skipStrongerPeer then [2, 1] else [2, 2] := by cases o <;> rfl

theorem Change.code_eq (c : Change) : c.code = if c = .retract then 1 else 0 := by cases c <;> rfl

theorem EndReason.code_eq (r : EndReason) : r.code = BitVec.ofNat 8 ([EndReason.done, .cancelled, .halted].idxOf r) := by cases r <;> rfl

theorem Stage.code_eq (s : Stage) : s.code = BitVec.ofNat 8 ([Stage.taken, .announced, .committed, .active].idxOf s) := by cases s <;> rfl

theorem MonitorState.code_eq (m : MonitorState) :
    m.code = BitVec.ofNat 8 ([MonitorState.clockOk, .clockSuspect, .clockLost].idxOf m) := by cases m <;> rfl

theorem AckState.code_eq (a : AckState) : a.code = if a = .noClear then 0 else if a = .expired then 2 else 1 := by cases a <;> rfl

theorem Liveness.code_eq (l : Liveness) : l.code = BitVec.ofNat 8 ([Liveness.unheard, .live, .quiet, .lost].idxOf l) := by cases l <;> rfl

theorem ClearOrigin.code_eq (o : ClearOrigin) : o.code = if o = .line then 1 else 0 := by cases o <;> rfl

/-! ## Flag sets and the sender status byte -/

/-- A word of two bytes is its high byte and its low byte. -/
theorem bytesOf_two (v : BitVec 16) : ∃ high low : Byte, bytesOf 2 v = [high, low] ∧ high ++ low = v := by
  refine ⟨_, _, rfl, ?_⟩
  ext i hi
  rw [← BitVec.getLsbD_eq_getElem, ← BitVec.getLsbD_eq_getElem, BitVec.getLsbD_append]
  by_cases low : i < 8
  · simp [low]
  · simp [low, show i - 8 < 8 by omega, show 8 + (i - 8) = i by omega]

/-- The lower 11 bits of the two bytes of a flag set are its flags (R202, R203). -/
theorem flagSetBytes_lower (f : FlagSet) : ∃ high low : Byte, flagSetBytes f = [high, low] ∧ (high ++ low).setWidth 11 = f := by
  obtain ⟨high, low, hbytes, hword⟩ := bytesOf_two (Config.flagSetUpper f ++ f)
  exact ⟨high, low, hbytes, by rw [hword, BitVec.setWidth_append_eq_right]⟩

theorem length_flagSetBytes (f : FlagSet) : (flagSetBytes f).length = 2 := rfl

/-- The four lower bits of a byte that ends in four flags. -/
theorem getLsbD_lowerBits (upper : BitVec 4) (a b c d : Bool) :
    let byte : Byte := upper ++ (BitVec.ofBool d ++ BitVec.ofBool c ++ BitVec.ofBool b ++ BitVec.ofBool a : BitVec 4)
    byte.getLsbD 0 = a ∧ byte.getLsbD 1 = b ∧ byte.getLsbD 2 = c ∧ byte.getLsbD 3 = d := by
  revert upper a b c d
  decide

/-- The bits of the sender status byte to which R203 gives a meaning. -/
theorem senderByte_bits (p : PeerStatus) (free : Nat) :
    (p.senderByte free).getLsbD 0 = p.hold.isSome ∧ (∀ hold, p.hold = some hold → (p.senderByte free).getLsbD 1 = hold) ∧
      (p.senderByte free).getLsbD 2 = p.profile.isSome ∧
      ∀ name, p.profile = some name → (p.senderByte free).getLsbD 3 = decide (name = .b) := by
  obtain ⟨holdKnown, hold, profileKnown, profileB⟩ := getLsbD_lowerBits (Config.senderStatusUpper free p.station) p.hold.isSome
    (p.hold.getD (Config.unknownHoldBit free p.station)) p.profile.isSome
    ((p.profile.map (· == ProfileName.b)).getD (Config.unknownProfileBit free p.station))
  exact ⟨holdKnown, fun _ h => hold.trans (by rw [h]; rfl), profileKnown, fun name h => profileB.trans (by rw [h]; cases name <;> rfl)⟩

/-! ## Lengths -/

theorem length_peerBytes (p : PeerStatus) (free : Nat) : (p.bytes free).length = 7 := rfl

/-- Every notice has a body of its length, with the seven peers of a STATUS_REPORT and the eight epochs of a METER_REPORT (R203). -/
theorem Notice.length_body (n : Notice) (hpeers : ∀ r, n = .statusReport r → r.peers.length = 7)
    (hring : ∀ ring u c k o, n = .meterReport ring u c k o → ring.length = 8) : n.body.length = n.length := by
  cases n with
  | reply kind outcome reason tag clamped =>
    simp [Notice.body, Notice.length, natBytes_eq_valueBytes]
    omega
  | occurrence tag index outcome => cases outcome <;> rfl
  | meterReport ring =>
    have hr : ring.length = 8 := hring _ _ _ _ _ rfl
    simp [Notice.body, Notice.length, natBytes_eq_valueBytes, intBytes_two, bytesOf_eq_valueBytes, hr]
  | statusReport r =>
    have hp : r.peers.length = 7 := hpeers r rfl
    simp [Notice.body, Notice.length, StatusReport.bytes, bytesOf_eq_valueBytes, length_peerBytes, length_flagSetBytes, hp]
  | _ => rfl

/-! ## MISO -/

/-- MISO is released without a transaction, 0 without a notice, and gives the bits of the notice fixed (R192). -/
theorem RadioPort.miso_eq (r : RadioPort) (n : Notice) (k : Nat) :
    (r.transaction = none → r.miso k = none) ∧ (r.transaction = some ⟨none⟩ → r.miso k = some false) ∧
      (r.transaction = some ⟨some n⟩ → r.miso k = some ((n.bytes.flatMap bitsOfByte).getD k false)) := by
  refine ⟨fun h => ?_, fun h => ?_, fun h => ?_⟩ <;> rw [RadioPort.miso, h]
  · rfl
  · simp [Transaction.misoBit, Transaction.misoByte]
  · exact congrArg some (Transaction.misoBit_notice n k)

/-- Settles O53: the formats write each field by its code or as the bytes of its value, and the clauses name the same codes and bytes. -/
theorem noticeBytes : Obligations.NoticeBytes := by
  unfold Obligations.NoticeBytes
  intro be signed flag reasons profile monitor
  have hbe : be = natBytes := funext₂ fun n v => ((natBytes_eq_valueBytes n v).trans (valueBytes_eq_map n v)).symm
  have hword : ∀ (n w : Nat) (v : BitVec w), be n v.toNat = bytesOf n v := fun n w v => by
    rw [hbe, natBytes_eq_valueBytes, bytesOf_eq_valueBytes]
  have hsigned : signed = intBytes 2 := funext fun v => by rw [intBytes_two, ← natBytes_eq_valueBytes, ← hbe]
  have hprofile : profile = profileCode := funext fun p => (profileCode_eq p).symm
  have hmonitor : monitor = MonitorState.code := funext fun m => m.code_eq.symm
  have hreasons : ∀ r, BitVec.ofNat 8 (reasons.idxOf r) = r.code := fun r => r.code_eq.symm
  simp only [hword, hsigned, hprofile, hmonitor, hreasons, ← ReplyOutcome.code_eq, ← CommitOutcome.codes_eq, ← Change.code_eq,
    ← EndReason.code_eq, ← Stage.code_eq, ← ClearOrigin.code_eq, ← PartState.code_eq, ← AckState.code_eq, ← Liveness.code_eq]
  rw [hbe]
  refine ⟨?reply, ?occurrence, ?occChange, ?reqEnd, flagSetBytes_lower, ?alert, ?profileApplied, ?lineCleared, ?meterReport, ?statusReport,
    senderByte_bits, ?timeReport, ?shifted⟩
  case reply => exact fun _ _ _ _ _ => ⟨rfl, by simp [Notice.body, natBytes_eq_valueBytes, valueBytes]⟩
  case timeReport => exact fun _ _ last _ _ free => ⟨rfl, last.getD (Config.absentLastBoundary free), fun _ h => by rw [h]; rfl, rfl⟩
  case shifted =>
    intro n hpeers hring
    have hlength := n.length_body hpeers hring
    exact ⟨hlength, by rw [hlength]; rfl, fun r k => r.miso_eq n k⟩
  all_goals
    intros
    exact ⟨rfl, rfl⟩

end Sys2Proof.Machine
end

section
/-! O52: what a transaction carries, and every record read as written (R192, R193, R202). -/

namespace Sys2Proof

/-! ## Fields of a record -/

variable {i n w : Nat}

/-- A field after the first byte is read from the bytes after it. -/
theorem wordAt_cons (b : Byte) (rest : List Byte) (h : 0 < i) : wordAt (b :: rest) i n w = wordAt rest (i - 1) n w :=
  wordAt_beyond [b] rest h

theorem byteAt_cons (b : Byte) (rest : List Byte) (h : 0 < i) : byteAt (b :: rest) i = byteAt rest (i - 1) := wordAt_cons b rest h

theorem byteAt_beyond (before rest : List Byte) (h : before.length ≤ i) :
    byteAt (before ++ rest) i = byteAt rest (i - before.length) := wordAt_beyond before rest h

@[simp] theorem wordAt_two (v : BitVec 16) (rest : List Byte) : wordAt (valueBytes 2 v.toNat ++ rest) 0 2 16 = v := wordAt_first v rfl rest

@[simp] theorem wordAt_three (v : BitVec 24) (rest : List Byte) : wordAt (valueBytes 3 v.toNat ++ rest) 0 3 24 = v := wordAt_first v rfl rest

@[simp] theorem wordAt_four (v : BitVec 32) (rest : List Byte) : wordAt (valueBytes 4 v.toNat ++ rest) 0 4 32 = v := wordAt_first v rfl rest

@[simp] theorem length_powerFieldsBytes (p : PowerFields) : (powerFieldsBytes p).length = 8 := by simp [powerFieldsBytes]

@[simp] theorem length_profileBytes (p : ProfileRecord) : (profileBytes p).length = 30 := by simp [profileBytes]

@[simp] theorem length_setupBytes (r : SetupRecord) : (setupBytes r).length = 75 := by simp [setupBytes]

theorem length_submitBytes (r : SubmitRecord) : (submitBytes r).length = if r.minDuration.isSome then 24 else 22 := by
  cases h : r.minDuration <;> simp [submitBytes, h]

theorem powerFieldsAt_beyond (before rest : List Byte) (h : before.length ≤ i) :
    powerFieldsAt (before ++ rest) i = powerFieldsAt rest (i - before.length) := by
  have shift : ∀ k, i + k - before.length = i - before.length + k := fun k => by omega
  have past : ∀ k, before.length ≤ i + k := fun k => by omega
  simp only [powerFieldsAt, wordAt_beyond, h, past, shift]

theorem profileAt_beyond (before rest : List Byte) (h : before.length ≤ i) :
    profileAt (before ++ rest) i = profileAt rest (i - before.length) := by
  have shift : ∀ k, i + k - before.length = i - before.length + k := fun k => by omega
  have past : ∀ k, before.length ≤ i + k := fun k => by omega
  simp only [profileAt, wordAt_beyond, byteAt_beyond, powerFieldsAt_beyond, h, past, shift]

theorem powerFieldsAt_cons (b : Byte) (rest : List Byte) (h : 0 < i) : powerFieldsAt (b :: rest) i = powerFieldsAt rest (i - 1) :=
  powerFieldsAt_beyond [b] rest h

theorem profileAt_cons (b : Byte) (rest : List Byte) (h : 0 < i) : profileAt (b :: rest) i = profileAt rest (i - 1) :=
  profileAt_beyond [b] rest h

/-! ## Bodies -/

@[simp] theorem powerFieldsAt_first (p : PowerFields) (rest : List Byte) : powerFieldsAt (powerFieldsBytes p ++ rest) 0 = p := by
  simp [powerFieldsAt, powerFieldsBytes, wordAt_beyond]

@[simp] theorem profileAt_first (p : ProfileRecord) (rest : List Byte) : profileAt (profileBytes p ++ rest) 0 = p := by
  simp [profileAt, profileBytes, wordAt_beyond, wordAt_cons, byteAt_beyond, powerFieldsAt_beyond, powerFieldsAt_cons]

/-- The body of a SETUP is read back from its bytes (R202). -/
theorem setupOf_setupBytes (r : SetupRecord) (rest : List Byte) : setupOf (setupBytes r ++ rest) = r := by
  simp [setupOf, setupBytes, wordAt_beyond, wordAt_cons, byteAt_beyond, byteAt_cons, profileAt_beyond, profileAt_cons]

/-- The body of a SUBMIT is read back from its bytes, when its stated length says whether it holds a min duration (R202). -/
theorem submitOf_submitBytes (r : SubmitRecord) (rest : List Byte) {stated : Nat} (h : 24 ≤ stated ↔ r.minDuration.isSome) :
    submitOf stated (submitBytes r ++ rest) = r := by
  have flag : ∀ b : Bool, (if b then 1#8 else 0#8)[0] = b := by decide
  obtain ⟨tag, periodic, startOffset, duration, slack, period, count, dir, low, high, power, cls, minDuration⟩ := r
  cases minDuration <;> simp [submitOf, submitBytes, wordAt_beyond, wordAt_cons, byteAt_beyond, byteAt_cons, flag, h]

theorem fastSpanOf_bytes (r : FastSpanRecord) (rest : List Byte) :
    fastSpanOf (valueBytes 2 r.low.toNat ++ valueBytes 2 r.high.toNat ++ [r.power] ++ rest) = r := by
  simp [fastSpanOf, wordAt_beyond, byteAt_beyond]

/-- The upper bits of the kind and direction bytes change nothing of a SUBMIT (R202). -/
theorem submitOf_upperBits (stated : Nat) (tag periodic dir : Byte) {middle : List Byte} (rest : List Byte) (h : middle.length = 13) :
    submitOf stated (tag :: periodic :: (middle ++ dir :: rest)) =
      submitOf stated (tag :: (periodic &&& 1) :: (middle ++ (dir &&& 3) :: rest)) := by
  have direction : ∀ d : BitVec 2, d &&& 3#2 = d := by decide
  simp [submitOf, wordAt_cons, byteAt_cons, wordAt_within, wordAt_beyond, byteAt_beyond, h, direction]

/-! ## Transactions -/

variable {act rq : Bool} {c : Instr} {kind : Byte} {bytes : List Byte}

/-- The body lengths of R202, kind by kind. -/
theorem recordLength_eq : ∀ kind : Byte, kind ≠ 0 → recordLength kind = [75, 22, 1, 1, 5, 0, 0, 2, 0, 0, 0][kind.toNat - 1]? := by decide

theorem transactionCommand_unknown (hk : kind ≠ 0) (hn : recordLength kind = none) (rest : List Byte) :
    transactionCommand act rq (kind :: rest) = .transactionEnd (rest.length + 1) (.unknownKind kind) := by
  simp only [transactionCommand, if_neg hk, hn, List.length_cons]

theorem transactionCommand_short (hk : kind ≠ 0) (hn : recordLength kind = some n) :
    transactionCommand act rq [kind] = .transactionEnd 1 (.badLength kind) := by
  simp only [transactionCommand, if_neg hk, hn, List.length_singleton]

/-- A record of a known kind is read when its stated length reaches the body length of its kind and the bytes that follow reach it (R193). -/
theorem transactionCommand_known (hk : kind ≠ 0) (hn : recordLength kind = some n) (stated : Byte) (body : List Byte) :
    transactionCommand act rq (kind :: stated :: body) =
      if stated.toNat < n ∨ body.length < stated.toNat then .transactionEnd (body.length + 2) (.badLength kind)
      else recordCommand (body.length + 2) act rq kind stated.toNat (body.take stated.toNat) := by
  simp only [transactionCommand, if_neg hk, hn, List.length_cons, Bool.or_eq_true, decide_eq_true_eq]

theorem framed_inj {kind' : Byte} {body body' : List Byte} (h : framed kind body = framed kind' body') : kind = kind' ∧ body = body' := by
  simp only [framed, List.cons.injEq] at h
  obtain ⟨hkind, -, hbody⟩ := h
  exact ⟨hkind, hbody⟩

/-- A record is written as its kind byte, its length byte and a body that holds what its kind needs (R202). -/
theorem recordBytes_framed (h : recordBytes c = some bytes) : ∃ kind body n, bytes = framed kind body ∧ kind ≠ 0 ∧
    recordLength kind = some n ∧ n ≤ body.length ∧ body.length < 256 := by
  cases c with
  | submit _ r =>
    cases h
    refine ⟨2, _, 22, rfl, by decide, rfl, ?_⟩
    rw [length_submitBytes]
    split <;> decide
  | setup | cancel | profileSelect | fastSpan | clearLine | clearAck | alarmClear | meterRead | statusRead | timeRead =>
    cases h
    exact ⟨_, _, _, rfl, by decide, rfl, by simp, by simp⟩
  | _ => cases h

/-- A record is read from its body bytes as the command that carries it, whatever body bytes follow them; two more bytes would be the min
duration of a SUBMIT (R202). -/
theorem recordCommand_recordBytes {whole : Nat} {body : List Byte} (more : List Byte) (h : recordBytes c = some (framed kind body))
    (hw : c.risesWith = some whole) (hlevels : ∀ whole a q r, c = .setup whole a q r → a = act ∧ q = rq)
    (hmin : ∀ whole r, c = .submit whole r → r.minDuration = none → more.length < 2) :
    recordCommand whole act rq kind (body.length + more.length) (body ++ more) = c := by
  have parts : ∀ {k b}, recordBytes c = some (framed k b) → k = kind ∧ b = body := fun e => framed_inj (Option.some.inj (e.symm.trans h))
  cases c with
  | setup whole a q r =>
    obtain ⟨rfl, rfl⟩ := hlevels _ _ _ _ rfl
    obtain ⟨rfl, rfl⟩ := parts rfl
    cases hw
    exact congrArg _ (setupOf_setupBytes r more)
  | submit whole r =>
    obtain ⟨rfl, rfl⟩ := parts rfl
    cases hw
    refine congrArg _ (submitOf_submitBytes r more ?_)
    rw [length_submitBytes]
    cases hm : r.minDuration with
    | none =>
      have short : 22 + more.length < 24 := Nat.add_lt_add_left (hmin _ r rfl hm) 22
      simpa using short
    | some => simp
  | cancel | profileSelect =>
    obtain ⟨rfl, rfl⟩ := parts rfl
    cases hw
    exact congrArg _ (byteAt_first _ more)
  | fastSpan whole r =>
    obtain ⟨rfl, rfl⟩ := parts rfl
    cases hw
    exact congrArg _ (fastSpanOf_bytes r more)
  | alarmClear =>
    obtain ⟨rfl, rfl⟩ := parts rfl
    cases hw
    exact congrArg _ (wordAt_two _ more)
  | clearLine | clearAck | meterRead | statusRead | timeRead =>
    obtain ⟨rfl, rfl⟩ := parts rfl
    cases hw
    rfl
  | _ => cases h

/-- The bytes of a record are read back as the command that carries it, whatever bytes follow its body (R193, R202). -/
theorem transactionCommand_recordBytes {stated : Byte} {body more after : List Byte} (h : recordBytes c = some (framed kind body))
    (hs : stated.toNat = body.length + more.length) (hw : c.risesWith = some (2 + body.length + more.length + after.length))
    (hlevels : ∀ whole a q r, c = .setup whole a q r → a = act ∧ q = rq)
    (hmin : ∀ whole r, c = .submit whole r → r.minDuration = none → more.length < 2) :
    transactionCommand act rq (kind :: stated :: (body ++ more ++ after)) = c := by
  obtain ⟨kind', body', n, hbytes, hk, hn, hleast, -⟩ := recordBytes_framed h
  obtain ⟨rfl, rfl⟩ := framed_inj hbytes
  have whole : (body ++ more ++ after).length + 2 = 2 + body.length + more.length + after.length := by simp; omega
  have fits : ¬ (stated.toNat < n ∨ (body ++ more ++ after).length < stated.toNat) := by simp; omega
  have stands : (body ++ more ++ after).take stated.toNat = body ++ more := List.take_left' (by simp [hs])
  rw [transactionCommand_known hk hn, if_neg fits, whole, stands, hs]
  exact recordCommand_recordBytes more h hw hlevels hmin

/-- A SUBMIT with the upper bits of its kind and direction bytes set is read as the one without them (R202). -/
theorem transactionCommand_upperBits (stated tag periodic dir : Byte) {middle : List Byte} (rest : List Byte) (h : middle.length = 13) :
    transactionCommand act rq (2 :: stated :: tag :: periodic :: (middle ++ dir :: rest)) =
      transactionCommand act rq (2 :: stated :: tag :: (periodic &&& 1) :: (middle ++ (dir &&& 3) :: rest)) := by
  have cut : ∀ (p d : Byte) (k : Nat), (tag :: p :: (middle ++ d :: rest)).take (k + 16) = tag :: p :: (middle ++ d :: rest.take k) :=
    fun p d k => by simp [List.take_append, h, List.take_of_length_le]
  rw [transactionCommand_known (by decide) rfl, transactionCommand_known (by decide) rfl]
  by_cases hbad : stated.toNat < 22
  · simp [hbad]
  · obtain ⟨k, hk⟩ := Nat.exists_eq_add_of_le' (show 16 ≤ stated.toNat by omega)
    have read : ∀ whole stated body, recordCommand whole act rq 2 stated body = .submit whole (submitOf stated body) := fun _ _ _ => rfl
    simp only [hk, cut, read, List.length_cons, List.length_append, submitOf_upperBits _ tag periodic dir _ h]

/-- Settles O52: the port's table of transactions, and the reading of what `recordBytes` writes. -/
theorem recordsAreRead : Obligations.RecordsAreRead := by
  unfold Obligations.RecordsAreRead
  intro least
  refine ⟨fun act rq bytes => ⟨?none, fun kind rest hbytes hk => ?kinds⟩,
    fun act rq c kind stated body more after => transactionCommand_recordBytes,
    fun act rq stated tag periodic dir middle rest => transactionCommand_upperBits stated tag periodic dir rest,
    fun act rq c bytes h hw hlevels => ?bits⟩
  case none =>
    intro h
    cases bytes with
    | nil => rfl
    | cons kind rest =>
      obtain rfl : kind = 0 := by simpa using h
      rfl
  case kinds =>
    subst hbytes
    rw [← recordLength_eq kind hk]
    refine ⟨fun hn => transactionCommand_unknown hk hn rest, fun n hn => ⟨fun hrest => ?short, fun stated body hrest hbad => ?bad⟩⟩
    all_goals subst hrest
    case short => exact transactionCommand_short hk hn
    case bad =>
      rw [transactionCommand_known hk hn, if_pos hbad]
      rfl
  case bits =>
    obtain ⟨kind, body, n, rfl, -, -, -, hlt⟩ := recordBytes_framed h
    have stated : (BitVec.ofNat 8 body.length).toNat = body.length := by simpa using hlt
    have whole : (framed kind body).length = 2 + body.length := Nat.add_comm body.length 2
    have read : transactionCommand act rq (kind :: BitVec.ofNat 8 body.length :: body) = c := by
      simpa using transactionCommand_recordBytes (more := []) (after := []) h stated (hw.trans (congrArg some whole)) hlevels (by simp)
    refine ⟨read, fun partialBits hpartial => ?_⟩
    rw [transactionOfBits, wholeBytes_bits _ hpartial]
    exact read

end Sys2Proof
end
